-- ==== Sys2Proof/Word.lean ====
section
/-!
DEFINITION. The word type and the four-channel array, as plain types.
Field extraction, masks and the accessors of an array are in `Sys2Proof/Machine/Bits.lean`.
-/

namespace Sys2Proof

/-- A register value, an offset or a written value: an unsigned 32-bit number (R6, R8). -/
abbrev Word := BitVec 32

/-- A channel number 0..3 of a timer (R6: four capture and four compare channels). -/
abbrev Channel := Fin 4

/-- Four like things indexed 0..3: the channel arrays of a timer (R30, R31, R34), the offsets of an
indexed register (R83), the four BITMODE codes (R144). -/
structure Quad (α : Type) where
  at0 : α
  at1 : α
  at2 : α
  at3 : α
deriving DecidableEq, Repr

/-- A counter width (R6): 8, 16, 24 or 32 bits. No other width can be written down (R23, R246). -/
inductive CounterWidth where
  | w8
  | w16
  | w24
  | w32
deriving DecidableEq, Repr

end Sys2Proof
end

