-- ==== Sys2Proof/Config.lean ====
section
/-!
DEFINITION. The parameters of R7 and R46, as one plain record. The spec leaves them open; a
machine has one choice of them, carried unchanged in `State.params`, so that a statement about every
state is a statement about every choice. The spec's defaults are `Params.default` in
`Sys2Proof/Machine/Params.lean`.
-/

namespace Sys2Proof

/-- `NARROW_ACCESS` (R7, R64, D4): what a transaction of width 1 or 2 means. -/
inductive NarrowAccess where
  | refuse
  | asWord
deriving DecidableEq, Repr

/-- `BYTE_ORDER` (R7, R62, D6): which byte of a register a byte view numbers 0. The spec names `little` only;
`big` is the model's (DESIGN CHOICE: log entry 18). -/
inductive ByteOrder where
  | little
  | big
deriving DecidableEq, Repr

/-- `RegMap` (R7, R83): the offset of every timer register; CAPTURE and CC have one for each channel. -/
structure RegMap where
  start : Word
  stop : Word
  limit : Word
  clear : Word
  shutdown : Word
  capture : Quad Word
  intenset : Word
  intenclr : Word
  mode : Word
  bitmode : Word
  prescaler : Word
  cc : Quad Word
deriving DecidableEq, Repr

/-- One cell of `LED_MAP` (R194): the logical position (x, y) of the LED, or `none` for the unused
sentinel NC. -/
abbrev LedCell := Option (Fin 5 × Fin 5)

/-- The parameters of R7. -/
structure Params where
  /-- `RegMap` (R83, D2, D3). -/
  regMap : RegMap
  /-- `NARROW_ACCESS` (R64, D4). -/
  narrowAccess : NarrowAccess
  /-- `BYTE_ORDER` (R62, D6). -/
  byteOrder : ByteOrder
  /-- `BITMODE_ENC` (R144, D10): the width of each 2-bit code. -/
  bitmodeEnc : Quad CounterWidth
  /-- `PRESCALER_RESET` (R24, D12). -/
  prescalerReset : BitVec 4
  /-- `BASE_FREQ_HZ` (R180, D13). -/
  baseFreqHz : Nat
  /-- `INTEN_SHIFT` (R85, D14): the bit of channel 0 in INTENSET and INTENCLR. -/
  intenShift : Nat
  /-- `LED_MAP` (R194, D22): three rows of nine cells. -/
  ledMap : List (List LedCell)
  /-- `LED_BASE` (R61, D24): the bus address of the LED window; it has no default. -/
  ledBase : Option Word
  /-- `LED_DRIVE_OFFSET` (R190, D24). -/
  ledDriveOffset : Word
  /-- `N_TIMERS` (R255, D29). -/
  nTimers : Nat
  /-- `TIMER_BASE[k]` (R61, D38): the bus addresses of the timer windows. -/
  timerBase : List Word
  /-- `WINDOW_SIZE` (R61, R84, D38). -/
  windowSize : Nat
  /-- `UNIMPL_OFFSETS` (R243, D40). -/
  unimplOffsets : List Word
deriving DecidableEq, Repr

end Sys2Proof
end

