-- ==== Sys2Proof/Syntax.lean ====
section
/-!
DEFINITION. The operations of the block: the requests the host delivers (R80, R82) and the decoded
operations, one constructor of `Instr` for each row of spec/opcode_table.json.
-/

namespace Sys2Proof

/-- The device an operation is addressed to (R9, R80): a timer instance or the LED decoder. -/
inductive Dev where
  | timer (k : Nat)
  | led
deriving DecidableEq, Repr

/-- The direction of a bus transaction (R80). -/
inductive Dir where
  | read
  | write
deriving DecidableEq, Repr

/-- `T.mode` (R22). -/
inductive TimerMode where
  | timer
  | counter
deriving DecidableEq, Repr

/-- The flat timer record of SAVE and RESTORE (R223): every field of a timer but `diag`. The fields
R224 bounds below their carrier (prescaler, bitModeCode, interruptEnableMask, latchedPrescaler) are
plain numbers here, so that a malformed record can be written down and refused. -/
structure TimerRecord where
  mode : TimerMode
  bitModeCode : Nat
  prescaler : Nat
  running : Bool
  pulsedStop : Bool
  liveCounter : Word
  softwareLimit : Word
  captureChannel : Quad Word
  compareChannel : Quad Word
  interruptEnableMask : Nat
  interruptLine : Bool
  compareEvents : Quad Word
  latchedMask : Word
  latchedPrescaler : Nat
  activeLimit : Word
deriving DecidableEq, Repr

/-- The flat LED record of SAVE and RESTORE (R223); `litMask` is a u32, so that one above 0x1FFFFFF
can be written down and refused (R225). -/
structure LedRecord where
  litMask : Word
  redrawFront : Bool
  redrawBack : Bool
deriving DecidableEq, Repr

/-- The operand of a host event (R82). -/
inductive EventArg where
  | none
  | timerRecord (rec : TimerRecord)
  | ledRecord (rec : LedRecord)
  /-- A subset of {front, back} (R226). -/
  | parts (front back : Bool)
deriving DecidableEq, Repr

/-- What the host delivers, before decoding. -/
inductive Request where
  /-- A bus transaction (R80); a read ignores `value`. -/
  | bus (dev : Dev) (dir : Dir) (offset : Word) (width : BitVec 8) (value : Word)
  /-- A host event (R82); `code` is bits 12:0 of its selector (R81: the W bit and OFF). -/
  | event (dev : Dev) (code : BitVec 13) (arg : EventArg)
  /-- The image-load event of R231, which has no selector and no effect. -/
  | imageLoad
deriving DecidableEq, Repr

/-- The operands that go with a selector (R81: "the instance number k, the written value and width
are operands, not part of the selector"), every kind at once. -/
structure Operands where
  k : Nat
  value : Word
  width : BitVec 8
  timerRec : TimerRecord
  ledRec : LedRecord
  front : Bool
  back : Bool
deriving DecidableEq, Repr

/-- A row of spec/opcode_table.json: a selector is of the row when its bits under `mask` are `pattern`. -/
structure OpcodeRow where
  mnemonic : String
  pattern : BitVec 15
  mask : BitVec 15
deriving DecidableEq, Repr

/-- A decoded operation: one constructor for each row of spec/opcode_table.json, in the table's order.
`k` is the timer instance, `value` the written value, `i` the channel index (R83: offset[3:2]), `width` the
width the access is performed with (R64, R241). -/
inductive Instr where
  | wStart (k : Nat) (value : Word)
  | rStart (k : Nat)
  | wStop (k : Nat) (value : Word)
  | rStop (k : Nat)
  | wLimit (k : Nat) (value : Word)
  | rLimit (k : Nat)
  | wClear (k : Nat) (value : Word)
  | rClear (k : Nat)
  | wShutdown (k : Nat) (value : Word)
  | rShutdown (k : Nat)
  | wIntenset (k : Nat) (value : Word)
  | rIntenset (k : Nat)
  | wIntenclr (k : Nat) (value : Word)
  | rIntenclr (k : Nat)
  | wMode (k : Nat) (value : Word)
  | rMode (k : Nat)
  | wBitmode (k : Nat) (value : Word)
  | rBitmode (k : Nat)
  | wPrescaler (k : Nat) (value : Word)
  | rPrescaler (k : Nat)
  | wCapture (k : Nat) (i : Channel) (value : Word)
  | rCapture (k : Nat) (i : Channel)
  | wCc (k : Nat) (i : Channel) (value : Word)
  | rCc (k : Nat) (i : Channel)
  | wDrive (value : Word)
  | rDrive
  | tick (k : Nat)
  | tReset (k : Nat)
  | tSave (k : Nat)
  | tRestore (k : Nat) (rec : TimerRecord)
  | lReset
  | lSave
  | lRestore (rec : LedRecord)
  | sinkAck (front : Bool) (back : Bool)
  | tRBadoffset (k : Nat) (offset : Word) (width : BitVec 8)
  | tWBadoffset (k : Nat) (offset : Word) (value : Word) (width : BitVec 8)
  | lRBadoffset (offset : Word) (width : BitVec 8)
  | lWBadoffset (offset : Word) (value : Word) (width : BitVec 8)
deriving DecidableEq, Repr

end Sys2Proof
end

