-- ==== Sys2Proof/Machine/Bits.lean ====
section
/-!
DEFINITION. Accessors of a four-channel array, counter masks (R9, R144) and the byte view of a
register (R62).
-/

namespace Sys2Proof

/-- Element `i` of a four-channel array. -/
def Quad.get {α : Type} (q : Quad α) (i : Channel) : α :=
  match i with
  | 0 => q.at0
  | 1 => q.at1
  | 2 => q.at2
  | 3 => q.at3

/-- The array with element `i` replaced. -/
def Quad.set {α : Type} (q : Quad α) (i : Channel) (a : α) : Quad α :=
  match i with
  | 0 => { q with at0 := a }
  | 1 => { q with at1 := a }
  | 2 => { q with at2 := a }
  | 3 => { q with at3 := a }

/-- Four equal elements. -/
def Quad.all {α : Type} (a : α) : Quad α :=
  { at0 := a, at1 := a, at2 := a, at3 := a }

/-- The number of bits of a counter width. -/
def CounterWidth.bits (w : CounterWidth) : Nat :=
  match w with
  | .w8 => 8
  | .w16 => 16
  | .w24 => 24
  | .w32 => 32

/-- `mask(w)` (R9): 0xFF, 0xFFFF, 0xFFFFFF or 0xFFFFFFFF. -/
def CounterWidth.mask (w : CounterWidth) : Word :=
  match w with
  | .w8 => 0xFF#32
  | .w16 => 0xFFFF#32
  | .w24 => 0xFFFFFF#32
  | .w32 => 0xFFFFFFFF#32

/-- The four masks a latched mask may be (R36). -/
def counterMasks : List Word :=
  [CounterWidth.mask .w8, CounterWidth.mask .w16, CounterWidth.mask .w24, CounterWidth.mask .w32]

/-- The effective prescaler `min(p, 9)` (R24, R112, D11). -/
def effectivePrescaler (p : BitVec 4) : BitVec 4 :=
  if p ≤ 9#4 then p else 9#4

/-- Byte `i` (0..3) of a register in a byte view (R62): under `little`, byte 0 is bits 7:0. DESIGN CHOICE (log
entry 18): the spec names no other value of `BYTE_ORDER`; the model's `big` numbers the bytes the other way
round, byte 0 being bits 31:24. -/
def byteView (order : ByteOrder) (v : Word) (i : Fin 4) : BitVec 8 :=
  match order with
  | .little => v.extractLsb' (8 * i.val) 8
  | .big => v.extractLsb' (8 * (3 - i.val)) 8

end Sys2Proof
end

