-- ==== Sys2Proof/Machine/Params.lean ====
section
/-!
DEFINITION. What the rules read from the parameters: the register map (R83), the width of a BITMODE
code (R144), the LED map and its clear masks (R194, R195), the placement of the windows (R61); the
spec's defaults (R7), and when a choice of parameters is well formed.
-/

namespace Sys2Proof

/-- A register of a timer's window, with its index (R41). -/
inductive TimerReg where
  | start
  | stop
  | limit
  | clear
  | shutdown
  | capture (i : Channel)
  | intenset
  | intenclr
  | mode
  | bitmode
  | prescaler
  | cc (i : Channel)
deriving DecidableEq, Repr

/-- Every register of R41, in its order. -/
def TimerReg.list : List TimerReg :=
  [.start, .stop, .limit, .clear, .shutdown,
   .capture 0, .capture 1, .capture 2, .capture 3,
   .intenset, .intenclr, .mode, .bitmode, .prescaler,
   .cc 0, .cc 1, .cc 2, .cc 3]

/-- `RegMap(r)` (R83). -/
def Params.offsetOf (p : Params) (r : TimerReg) : Word :=
  match r with
  | .start => p.regMap.start
  | .stop => p.regMap.stop
  | .limit => p.regMap.limit
  | .clear => p.regMap.clear
  | .shutdown => p.regMap.shutdown
  | .capture i => p.regMap.capture.get i
  | .intenset => p.regMap.intenset
  | .intenclr => p.regMap.intenclr
  | .mode => p.regMap.mode
  | .bitmode => p.regMap.bitmode
  | .prescaler => p.regMap.prescaler
  | .cc i => p.regMap.cc.get i

/-- The register whose offset is `offset` (R84: `offset = RegMap(r)`); the first in R41's order
(DESIGN CHOICE: log entry 13). -/
def Params.registerAt (p : Params) (offset : Word) : Option TimerReg :=
  TimerReg.list.find? (fun r => p.offsetOf r == offset)

/-- The offset lies in the window and is a multiple of 4 (R63, R84). -/
def Params.addressable (p : Params) (offset : Word) : Bool :=
  decide (offset.toNat < p.windowSize) && offset.extractLsb' 0 2 == 0#2

/-- The timer register an offset names (R84), where it names one. -/
def Params.timerReg (p : Params) (offset : Word) : Option TimerReg :=
  if p.addressable offset then p.registerAt offset else none

/-- The offset is the LED decoder's one register, the drive word (R84, R190). -/
def Params.isDrive (p : Params) (offset : Word) : Bool :=
  p.addressable offset && offset == p.ledDriveOffset

/-- An access of this width has a meaning (R64): 4, or 1 and 2 where `NARROW_ACCESS = as_word`. -/
def Params.widthAllowed (p : Params) (width : BitVec 8) : Bool :=
  width == 4#8 || ((width == 1#8 || width == 2#8) && p.narrowAccess == .asWord)

/-- The width a transaction of an allowed width is performed with: that of the 32-bit transaction (R64, D4),
which its diagnostic record therefore holds (DEDUCED: log entry 8). -/
def Params.performedWidth (_p : Params) (_width : BitVec 8) : BitVec 8 :=
  4#8

/-- The offset logs UnimplementedFeature instead of BadOffset (R84, R243). -/
def Params.isUnimplemented (p : Params) (offset : Word) : Bool :=
  p.addressable offset && p.unimplOffsets.contains offset

/-- `BITMODE_ENC(code)` (R23, R144). -/
def Params.widthOf (p : Params) (code : BitVec 2) : CounterWidth :=
  p.bitmodeEnc.get code.toFin

/-- `mask(BITMODE_ENC(code))` (R36, R112). -/
def Params.maskOf (p : Params) (code : BitVec 2) : Word :=
  (p.widthOf code).mask

/-- The bit x + 5y of a connected cell (R42, R194), and no bit for the sentinel. -/
def LedCell.bit (cell : LedCell) : BitVec 25 :=
  match cell with
  | none => 0#25
  | some (x, y) => 1#25 <<< (x.val + 5 * y.val)

/-- `LED_MAP[r][c]` (R194). -/
def Params.ledCell (p : Params) (r : Fin 3) (c : Nat) : LedCell :=
  ((p.ledMap[r.val]?.getD [])[c]?).join

/-- `ROW_CLEAR[r]` (R195): the bits of the connected cells of row `r`. -/
def Params.rowClear (p : Params) (r : Fin 3) : BitVec 25 :=
  (List.range 9).foldl (fun acc c => acc ||| LedCell.bit (p.ledCell r c)) 0#25

/-- The window an absolute bus address reaches, and the offset in it (R61, R254). The host's bus
routes; the block itself never sees the address. DESIGN CHOICE (log entry 19): of windows that overlap, the
lowest-numbered timer's is reached, and any timer's before the LED decoder's; a window does not wrap past the
top of the address space. -/
def Params.route (p : Params) (addr : Word) : Option (Dev × Word) :=
  let inWindow := fun (base : Word) =>
    decide (base ≤ addr) && decide ((addr - base).toNat < p.windowSize)
  match p.timerBase.findIdx? inWindow with
  | some k => some (.timer k, addr - p.timerBase.getD k 0#32)
  | none =>
    match p.ledBase with
    | some base => if inWindow base then some (.led, addr - base) else none
    | none => none

/-- The spec's default register map: the nRF51 TIMER layout with LIMIT at 0x008 (R83, D2, D3). -/
def RegMap.default : RegMap :=
  { start := 0x000#32, stop := 0x004#32, limit := 0x008#32, clear := 0x00C#32, shutdown := 0x010#32,
    capture := { at0 := 0x040#32, at1 := 0x044#32, at2 := 0x048#32, at3 := 0x04C#32 },
    intenset := 0x304#32, intenclr := 0x308#32,
    mode := 0x504#32, bitmode := 0x508#32, prescaler := 0x510#32,
    cc := { at0 := 0x540#32, at1 := 0x544#32, at2 := 0x548#32, at3 := 0x54C#32 } }

/-- The spec's default LED map: the BBC micro:bit v1 display (R194, D22). -/
def ledMapDefault : List (List LedCell) :=
  [[some (0, 0), some (2, 0), some (4, 0), some (4, 3), some (3, 3),
    some (2, 3), some (1, 3), some (0, 3), some (1, 2)],
   [some (4, 2), some (0, 2), some (2, 2), some (1, 0), some (3, 0),
    some (3, 4), some (1, 4), none, none],
   [some (2, 4), some (4, 4), some (0, 4), some (0, 1), some (1, 1),
    some (2, 1), some (3, 1), some (4, 1), some (3, 2)]]

/-- The defaults of R7. -/
def Params.default : Params :=
  { regMap := RegMap.default
    narrowAccess := .refuse
    byteOrder := .little
    bitmodeEnc := { at0 := .w16, at1 := .w8, at2 := .w24, at3 := .w32 }
    prescalerReset := 4#4
    baseFreqHz := 16000000
    intenShift := 16
    ledMap := ledMapDefault
    ledBase := none
    ledDriveOffset := 0x000#32
    nTimers := 3
    timerBase := [0x40008000#32, 0x40009000#32, 0x4000A000#32]
    windowSize := 0x1000
    unimplOffsets := [] }

/-- Every register is reached at its own offset: aligned, inside the window, no two alike (R63, R83). -/
def Params.regMapOk (p : Params) : Bool :=
  TimerReg.list.all (fun r => p.timerReg (p.offsetOf r) == some r) && p.isDrive p.ledDriveOffset

/-- The connected cells of `LED_MAP`, row by row. -/
def Params.connectedCells (p : Params) : List (Fin 5 × Fin 5) :=
  ([0, 1, 2] : List (Fin 3)).flatMap (fun r => (List.range 9).filterMap (p.ledCell r))

/-- The two properties R194 asks of `LED_MAP`: every one of the 25 bits in exactly one connected cell,
and row 1, columns 7 and 8, unused. -/
def Params.ledMapOk (p : Params) : Bool :=
  decide p.connectedCells.Nodup && p.connectedCells.length == 25 &&
    p.ledCell 1 7 == none && p.ledCell 1 8 == none

/-- A choice of parameters the spec admits: R83's map, R194's map, an enable field inside the written
word (R85), one window address for each timer instance (R61). -/
def Params.wf (p : Params) : Bool :=
  p.regMapOk && p.ledMapOk && decide (p.intenShift ≤ 28) && p.timerBase.length == p.nTimers

end Sys2Proof
end

