-- ==== Sys2Proof/WellFormed.lean ====
section
/-!
DEFINITION. When a decoded operation is one the decoder can produce: its timer instance exists
(R80), and a fallback operation has an offset that names no register (R84, R90) and the width transactions
are performed with (R64).
-/

namespace Sys2Proof

/-- The device an operation acts on (R80, R82). -/
def Instr.target (i : Instr) : Dev :=
  match i with
  | .wStart k _ | .rStart k | .wStop k _ | .rStop k | .wLimit k _ | .rLimit k
  | .wClear k _ | .rClear k | .wShutdown k _ | .rShutdown k
  | .wIntenset k _ | .rIntenset k | .wIntenclr k _ | .rIntenclr k
  | .wMode k _ | .rMode k | .wBitmode k _ | .rBitmode k | .wPrescaler k _ | .rPrescaler k
  | .wCapture k _ _ | .rCapture k _ | .wCc k _ _ | .rCc k _
  | .tick k | .tReset k | .tSave k | .tRestore k _
  | .tRBadoffset k _ _ | .tWBadoffset k _ _ _ => .timer k
  | .wDrive _ | .rDrive | .lReset | .lSave | .lRestore _ | .sinkAck _ _
  | .lRBadoffset _ _ | .lWBadoffset _ _ _ => .led

/-- The device exists: a timer instance is one of 0 .. `N_TIMERS` - 1 (R80). -/
def Params.hasDev (p : Params) (d : Dev) : Bool :=
  match d with
  | .timer k => decide (k < p.nTimers)
  | .led => true

/-- The operands of a fallback operation: an offset without a register, a width that has a meaning and that
a transaction is performed with. -/
def Instr.operandsOk (p : Params) (i : Instr) : Bool :=
  match i with
  | .tRBadoffset _ offset width | .tWBadoffset _ offset _ width =>
    p.timerReg offset == none && p.widthAllowed width && p.performedWidth width == width
  | .lRBadoffset offset width | .lWBadoffset offset _ width =>
    !p.isDrive offset && p.widthAllowed width && p.performedWidth width == width
  | .wStart _ _ | .rStart _ | .wStop _ _ | .rStop _ | .wLimit _ _ | .rLimit _
  | .wClear _ _ | .rClear _ | .wShutdown _ _ | .rShutdown _
  | .wIntenset _ _ | .rIntenset _ | .wIntenclr _ _ | .rIntenclr _
  | .wMode _ _ | .rMode _ | .wBitmode _ _ | .rBitmode _ | .wPrescaler _ _ | .rPrescaler _
  | .wCapture _ _ _ | .rCapture _ _ | .wCc _ _ _ | .rCc _ _
  | .wDrive _ | .rDrive | .tick _ | .tReset _ | .tSave _ | .tRestore _ _
  | .lReset | .lSave | .lRestore _ | .sinkAck _ _ => true

/-- A well-formed operation. -/
def Instr.wf (p : Params) (i : Instr) : Bool :=
  p.hasDev i.target && i.operandsOk p

end Sys2Proof
end

