-- ==== Sys2Proof/Machine/Device.lean ====
section
/-!
DEFINITION. The state of one timer instance and of the LED decoder (10_state.md), their diagnostic
records (R241), their values after instantiation (R47, R220) and their saved records (R223).
-/

namespace Sys2Proof.Machine

/-- A diagnostic record (R241), with the device it is recorded for. -/
inductive Diag where
  | badOffsetRead (dev : Dev) (offset : Word) (width : BitVec 8)
  | badOffsetWrite (dev : Dev) (offset : Word) (value : Word) (width : BitVec 8)
  | unimplementedRead (dev : Dev) (offset : Word)
  | unimplementedWrite (dev : Dev) (offset : Word) (value : Word)
deriving DecidableEq, Repr

/-- The spec's code of a diagnostic record (R241). -/
def Diag.code (d : Diag) : Nat :=
  match d with
  | .badOffsetRead _ _ _ => 1
  | .badOffsetWrite _ _ _ _ => 2
  | .unimplementedRead _ _ => 3
  | .unimplementedWrite _ _ _ => 4

/-- One timer instance. -/
structure Timer where
  /-- R22. -/
  mode : TimerMode
  /-- R23: the last BITMODE field written. -/
  bitModeCode : BitVec 2
  /-- R24: the last PRESCALER field written. -/
  prescaler : BitVec 4
  /-- R25. -/
  running : Bool
  /-- R26. -/
  pulsedStop : Bool
  /-- R28. -/
  liveCounter : Word
  /-- R29. -/
  softwareLimit : Word
  /-- R30. -/
  captureChannel : Quad Word
  /-- R31. -/
  compareChannel : Quad Word
  /-- R32: bit `i` enables channel `i`. -/
  interruptEnableMask : BitVec 4
  /-- R33: the level of the timer's interrupt output. -/
  interruptLine : Bool
  /-- R34: diagnostic counters, modulo 2^32. -/
  compareEvents : Quad Word
  /-- R36: the wraparound mask ticks apply. -/
  latchedMask : Word
  /-- R37: 0..9, the prescaler the tick period is computed from. -/
  latchedPrescaler : BitVec 4
  /-- R38: the reloaded limit. -/
  activeLimit : Word
  /-- R35: append-only, invisible to firmware. -/
  diag : List Diag
deriving DecidableEq, Repr

/-- The LED matrix scan decoder. -/
structure Led where
  /-- R42: bit x + 5y is the LED at column x, row y. -/
  litMask : BitVec 25
  /-- R43: the foreground needs a redraw. -/
  redrawFront : Bool
  /-- R43: the background needs a redraw. -/
  redrawBack : Bool
  /-- R44. -/
  diag : List Diag
deriving DecidableEq, Repr

/-- A timer right after instantiation (R47, R220). -/
def Timer.fresh (p : Params) : Timer :=
  { mode := .timer
    bitModeCode := 0#2
    prescaler := p.prescalerReset
    running := false
    pulsedStop := false
    liveCounter := 0#32
    softwareLimit := 0#32
    captureChannel := Quad.all 0#32
    compareChannel := Quad.all 0#32
    interruptEnableMask := 0#4
    interruptLine := false
    compareEvents := Quad.all 0#32
    latchedMask := p.maskOf 0#2
    latchedPrescaler := effectivePrescaler p.prescalerReset
    activeLimit := 0#32
    diag := [] }

/-- The LED decoder right after instantiation (R47, R220). -/
def Led.fresh : Led :=
  { litMask := 0#25, redrawFront := true, redrawBack := true, diag := [] }

/-- The record a timer SAVE returns (R223). -/
def Timer.record (t : Timer) : TimerRecord :=
  { mode := t.mode
    bitModeCode := t.bitModeCode.toNat
    prescaler := t.prescaler.toNat
    running := t.running
    pulsedStop := t.pulsedStop
    liveCounter := t.liveCounter
    softwareLimit := t.softwareLimit
    captureChannel := t.captureChannel
    compareChannel := t.compareChannel
    interruptEnableMask := t.interruptEnableMask.toNat
    interruptLine := t.interruptLine
    compareEvents := t.compareEvents
    latchedMask := t.latchedMask
    latchedPrescaler := t.latchedPrescaler.toNat
    activeLimit := t.activeLimit }

/-- The record an LED SAVE returns (R223). -/
def Led.record (l : Led) : LedRecord :=
  { litMask := l.litMask.setWidth 32, redrawFront := l.redrawFront, redrawBack := l.redrawBack }

end Sys2Proof.Machine
end

