-- ==== Sys2Proof/Decode.lean ====
section
/-!
DEFINITION. Decoding of a request (R84), the selector notation (R81) with the opcode table as R90
reads it, and the encoder.
-/

namespace Sys2Proof

/-- Why a request is no operation (R247, and the model's own reasons). -/
inductive Reject where
  /-- R84: a width not in 1, 2, 4. -/
  | badWidth (width : BitVec 8)
  /-- R84: a width of 1 or 2 under `NARROW_ACCESS = refuse`. -/
  | narrowAccess (width : BitVec 8)
  /-- R82: an event code not listed. -/
  | unknownEvent (dev : Dev) (code : BitVec 13)
  /-- R80: no instance of that number. -/
  | noSuchTimer (k : Nat)
  /-- The event's operand is not of the kind R82 gives it. -/
  | wrongOperand (code : BitVec 13)
  /-- R231: an image-load event has no selector and names no operation. -/
  | noSelector
deriving DecidableEq, Repr

/-- The first two lines of R84: the refusals of a width. -/
def Params.widthReject (p : Params) (width : BitVec 8) : Option Reject :=
  if width == 4#8 then none
  else if width == 1#8 || width == 2#8 then
    match p.narrowAccess with
    | .refuse => some (.narrowAccess width)
    | .asWord => none
  else some (.badWidth width)

/-- The refusal of a device that does not exist (R80). -/
def Params.devReject (p : Params) (dev : Dev) : Option Reject :=
  match dev with
  | .timer k => if p.hasDev (.timer k) then none else some (.noSuchTimer k)
  | .led => none

/-- The operation of a timer register in a direction (R41). -/
def TimerReg.instr (r : TimerReg) (dir : Dir) (k : Nat) (value : Word) : Instr :=
  match r, dir with
  | .start, .write => .wStart k value
  | .start, .read => .rStart k
  | .stop, .write => .wStop k value
  | .stop, .read => .rStop k
  | .limit, .write => .wLimit k value
  | .limit, .read => .rLimit k
  | .clear, .write => .wClear k value
  | .clear, .read => .rClear k
  | .shutdown, .write => .wShutdown k value
  | .shutdown, .read => .rShutdown k
  | .capture i, .write => .wCapture k i value
  | .capture i, .read => .rCapture k i
  | .intenset, .write => .wIntenset k value
  | .intenset, .read => .rIntenset k
  | .intenclr, .write => .wIntenclr k value
  | .intenclr, .read => .rIntenclr k
  | .mode, .write => .wMode k value
  | .mode, .read => .rMode k
  | .bitmode, .write => .wBitmode k value
  | .bitmode, .read => .rBitmode k
  | .prescaler, .write => .wPrescaler k value
  | .prescaler, .read => .rPrescaler k
  | .cc i, .write => .wCc k i value
  | .cc i, .read => .rCc k i

/-- The timer part of R84: a register's operation, or the fallback operation. -/
def Params.decodeTimer (p : Params) (k : Nat) (dir : Dir) (offset : Word) (width : BitVec 8)
    (value : Word) : Instr :=
  match p.timerReg offset with
  | some r => r.instr dir k value
  | none =>
    match dir with
    | .read => .tRBadoffset k offset width
    | .write => .tWBadoffset k offset value width

/-- The LED part of R84: the drive word, or the fallback operation. -/
def Params.decodeLed (p : Params) (dir : Dir) (offset : Word) (width : BitVec 8)
    (value : Word) : Instr :=
  match p.isDrive offset, dir with
  | true, .read => .rDrive
  | true, .write => .wDrive value
  | false, .read => .lRBadoffset offset width
  | false, .write => .lWBadoffset offset value width

/-- R84 as a whole. A transaction that is not refused is performed as the 32-bit transaction (R64). -/
def Params.decodeBus (p : Params) (dev : Dev) (dir : Dir) (offset : Word) (width : BitVec 8)
    (value : Word) : Except Reject Instr :=
  match p.widthReject width with
  | some e => .error e
  | none =>
    match dev with
    | .timer k => .ok (p.decodeTimer k dir offset (p.performedWidth width) value)
    | .led => .ok (p.decodeLed dir offset (p.performedWidth width) value)

/-- The events of a timer (R82). -/
def decodeTimerEvent (k : Nat) (code : BitVec 13) (arg : EventArg) : Except Reject Instr :=
  if code = 0x0#13 then .ok (.tick k)
  else if code = 0x1#13 then .ok (.tReset k)
  else if code = 0x2#13 then .ok (.tSave k)
  else if code = 0x3#13 then
    match arg with
    | .timerRecord rec => .ok (.tRestore k rec)
    | .none | .ledRecord _ | .parts _ _ => .error (.wrongOperand code)
  else .error (.unknownEvent (.timer k) code)

/-- The events of the LED decoder (R82). -/
def decodeLedEvent (code : BitVec 13) (arg : EventArg) : Except Reject Instr :=
  if code = 0x1#13 then .ok .lReset
  else if code = 0x2#13 then .ok .lSave
  else if code = 0x3#13 then
    match arg with
    | .ledRecord rec => .ok (.lRestore rec)
    | .none | .timerRecord _ | .parts _ _ => .error (.wrongOperand code)
  else if code = 0x4#13 then
    match arg with
    | .parts front back => .ok (.sinkAck front back)
    | .none | .timerRecord _ | .ledRecord _ => .error (.wrongOperand code)
  else .error (.unknownEvent .led code)

/-- The operation a request names, or why it names none. Total. -/
def decode (p : Params) (r : Request) : Except Reject Instr :=
  match r with
  | .bus dev dir offset width value =>
    match p.devReject dev with
    | some e => .error e
    | none => p.decodeBus dev dir offset width value
  | .event dev code arg =>
    match p.devReject dev with
    | some e => .error e
    | none =>
      match dev with
      | .timer k => decodeTimerEvent k code arg
      | .led => decodeLedEvent code arg
  | .imageLoad => .error .noSelector

/-- The request of an operation: R83's offsets, R81's and R82's event codes, width 4 (R64). -/
def encode (p : Params) (i : Instr) : Request :=
  match i with
  | .wStart k value => .bus (.timer k) .write (p.offsetOf .start) 4#8 value
  | .rStart k => .bus (.timer k) .read (p.offsetOf .start) 4#8 0#32
  | .wStop k value => .bus (.timer k) .write (p.offsetOf .stop) 4#8 value
  | .rStop k => .bus (.timer k) .read (p.offsetOf .stop) 4#8 0#32
  | .wLimit k value => .bus (.timer k) .write (p.offsetOf .limit) 4#8 value
  | .rLimit k => .bus (.timer k) .read (p.offsetOf .limit) 4#8 0#32
  | .wClear k value => .bus (.timer k) .write (p.offsetOf .clear) 4#8 value
  | .rClear k => .bus (.timer k) .read (p.offsetOf .clear) 4#8 0#32
  | .wShutdown k value => .bus (.timer k) .write (p.offsetOf .shutdown) 4#8 value
  | .rShutdown k => .bus (.timer k) .read (p.offsetOf .shutdown) 4#8 0#32
  | .wIntenset k value => .bus (.timer k) .write (p.offsetOf .intenset) 4#8 value
  | .rIntenset k => .bus (.timer k) .read (p.offsetOf .intenset) 4#8 0#32
  | .wIntenclr k value => .bus (.timer k) .write (p.offsetOf .intenclr) 4#8 value
  | .rIntenclr k => .bus (.timer k) .read (p.offsetOf .intenclr) 4#8 0#32
  | .wMode k value => .bus (.timer k) .write (p.offsetOf .mode) 4#8 value
  | .rMode k => .bus (.timer k) .read (p.offsetOf .mode) 4#8 0#32
  | .wBitmode k value => .bus (.timer k) .write (p.offsetOf .bitmode) 4#8 value
  | .rBitmode k => .bus (.timer k) .read (p.offsetOf .bitmode) 4#8 0#32
  | .wPrescaler k value => .bus (.timer k) .write (p.offsetOf .prescaler) 4#8 value
  | .rPrescaler k => .bus (.timer k) .read (p.offsetOf .prescaler) 4#8 0#32
  | .wCapture k i value => .bus (.timer k) .write (p.offsetOf (.capture i)) 4#8 value
  | .rCapture k i => .bus (.timer k) .read (p.offsetOf (.capture i)) 4#8 0#32
  | .wCc k i value => .bus (.timer k) .write (p.offsetOf (.cc i)) 4#8 value
  | .rCc k i => .bus (.timer k) .read (p.offsetOf (.cc i)) 4#8 0#32
  | .wDrive value => .bus .led .write p.ledDriveOffset 4#8 value
  | .rDrive => .bus .led .read p.ledDriveOffset 4#8 0#32
  | .tick k => .event (.timer k) 0x0#13 .none
  | .tReset k => .event (.timer k) 0x1#13 .none
  | .tSave k => .event (.timer k) 0x2#13 .none
  | .tRestore k rec => .event (.timer k) 0x3#13 (.timerRecord rec)
  | .lReset => .event .led 0x1#13 .none
  | .lSave => .event .led 0x2#13 .none
  | .lRestore rec => .event .led 0x3#13 (.ledRecord rec)
  | .sinkAck front back => .event .led 0x4#13 (.parts front back)
  | .tRBadoffset k offset width => .bus (.timer k) .read offset width 0#32
  | .tWBadoffset k offset value width => .bus (.timer k) .write offset width value
  | .lRBadoffset offset width => .bus .led .read offset width 0#32
  | .lWBadoffset offset value width => .bus .led .write offset width value

/-- Bit 13 of a selector, `D` (R81). -/
def Dev.bit (dev : Dev) : BitVec 1 :=
  match dev with
  | .timer _ => 0#1
  | .led => 1#1

/-- Bit 12 of a bus selector, `W` (R81). -/
def Dir.bit (dir : Dir) : BitVec 1 :=
  match dir with
  | .read => 0#1
  | .write => 1#1

/-- The selector of a request (R81); an image-load event has none (R231). -/
def Request.selector (r : Request) : Option (BitVec 15) :=
  match r with
  | .bus dev dir offset _ _ => some (0#1 ++ dev.bit ++ dir.bit ++ offset.extractLsb' 0 12)
  | .event dev code _ => some (1#1 ++ dev.bit ++ code)
  | .imageLoad => none

/-- The selector of an operation (R81). -/
def Instr.selector (p : Params) (i : Instr) : Option (BitVec 15) :=
  (encode p i).selector

/-- The operand R82 gives the event of a code, from the operands beside its selector. -/
def Operands.eventArg (o : Operands) (dev : Dev) (code : BitVec 13) : EventArg :=
  if code = 0x3#13 then
    match dev with
    | .timer _ => .timerRecord o.timerRec
    | .led => .ledRecord o.ledRec
  else if code = 0x4#13 then .parts o.front o.back
  else .none

/-- The request a selector and its operands name (R81, R82). -/
def Request.ofSelector (o : Operands) (sel : BitVec 15) : Request :=
  let dev : Dev := if sel.getLsbD 13 then .led else .timer o.k
  if sel.getLsbD 14 then
    .event dev (sel.extractLsb' 0 13) (o.eventArg dev (sel.extractLsb' 0 13))
  else
    .bus dev (if sel.getLsbD 12 then .write else .read) ((sel.extractLsb' 0 12).setWidth 32)
      o.width o.value

/-- The rows of the timer tasks and LIMIT. -/
def opcodeRowsTimerTasks : List OpcodeRow :=
  [{ mnemonic := "W_START", pattern := 0x1000#15, mask := 0x7FFF#15 },
   { mnemonic := "R_START", pattern := 0x0000#15, mask := 0x7FFF#15 },
   { mnemonic := "W_STOP", pattern := 0x1004#15, mask := 0x7FFF#15 },
   { mnemonic := "R_STOP", pattern := 0x0004#15, mask := 0x7FFF#15 },
   { mnemonic := "W_LIMIT", pattern := 0x1008#15, mask := 0x7FFF#15 },
   { mnemonic := "R_LIMIT", pattern := 0x0008#15, mask := 0x7FFF#15 },
   { mnemonic := "W_CLEAR", pattern := 0x100C#15, mask := 0x7FFF#15 },
   { mnemonic := "R_CLEAR", pattern := 0x000C#15, mask := 0x7FFF#15 },
   { mnemonic := "W_SHUTDOWN", pattern := 0x1010#15, mask := 0x7FFF#15 },
   { mnemonic := "R_SHUTDOWN", pattern := 0x0010#15, mask := 0x7FFF#15 }]

/-- The rows of the other timer registers. -/
def opcodeRowsTimerConfig : List OpcodeRow :=
  [{ mnemonic := "W_INTENSET", pattern := 0x1304#15, mask := 0x7FFF#15 },
   { mnemonic := "R_INTENSET", pattern := 0x0304#15, mask := 0x7FFF#15 },
   { mnemonic := "W_INTENCLR", pattern := 0x1308#15, mask := 0x7FFF#15 },
   { mnemonic := "R_INTENCLR", pattern := 0x0308#15, mask := 0x7FFF#15 },
   { mnemonic := "W_MODE", pattern := 0x1504#15, mask := 0x7FFF#15 },
   { mnemonic := "R_MODE", pattern := 0x0504#15, mask := 0x7FFF#15 },
   { mnemonic := "W_BITMODE", pattern := 0x1508#15, mask := 0x7FFF#15 },
   { mnemonic := "R_BITMODE", pattern := 0x0508#15, mask := 0x7FFF#15 },
   { mnemonic := "W_PRESCALER", pattern := 0x1510#15, mask := 0x7FFF#15 },
   { mnemonic := "R_PRESCALER", pattern := 0x0510#15, mask := 0x7FFF#15 },
   { mnemonic := "W_CAPTURE", pattern := 0x1040#15, mask := 0x7FF3#15 },
   { mnemonic := "R_CAPTURE", pattern := 0x0040#15, mask := 0x7FF3#15 },
   { mnemonic := "W_CC", pattern := 0x1540#15, mask := 0x7FF3#15 },
   { mnemonic := "R_CC", pattern := 0x0540#15, mask := 0x7FF3#15 }]

/-- The rows of the drive word and the host events. -/
def opcodeRowsLedAndEvents : List OpcodeRow :=
  [{ mnemonic := "W_DRIVE", pattern := 0x3000#15, mask := 0x7FFF#15 },
   { mnemonic := "R_DRIVE", pattern := 0x2000#15, mask := 0x7FFF#15 },
   { mnemonic := "TICK", pattern := 0x4000#15, mask := 0x7FFF#15 },
   { mnemonic := "T_RESET", pattern := 0x4001#15, mask := 0x7FFF#15 },
   { mnemonic := "T_SAVE", pattern := 0x4002#15, mask := 0x7FFF#15 },
   { mnemonic := "T_RESTORE", pattern := 0x4003#15, mask := 0x7FFF#15 },
   { mnemonic := "L_RESET", pattern := 0x6001#15, mask := 0x7FFF#15 },
   { mnemonic := "L_SAVE", pattern := 0x6002#15, mask := 0x7FFF#15 },
   { mnemonic := "L_RESTORE", pattern := 0x6003#15, mask := 0x7FFF#15 },
   { mnemonic := "SINK_ACK", pattern := 0x6004#15, mask := 0x7FFF#15 }]

/-- The four fallback rows (R90). -/
def fallbackRows : List OpcodeRow :=
  [{ mnemonic := "T_R_BADOFFSET", pattern := 0x0000#15, mask := 0x7000#15 },
   { mnemonic := "T_W_BADOFFSET", pattern := 0x1000#15, mask := 0x7000#15 },
   { mnemonic := "L_R_BADOFFSET", pattern := 0x2000#15, mask := 0x7000#15 },
   { mnemonic := "L_W_BADOFFSET", pattern := 0x3000#15, mask := 0x7000#15 }]

/-- spec/opcode_table.json, in its order, the fallback rows last (R90). -/
def opcodeTable : List OpcodeRow :=
  opcodeRowsTimerTasks ++ opcodeRowsTimerConfig ++ opcodeRowsLedAndEvents ++ fallbackRows

/-- The row of a selector as R90 finds it: the first that matches, the fallback rows last. -/
def tableMnemonic (sel : BitVec 15) : Option String :=
  (opcodeTable.find? (fun row => sel &&& row.mask == row.pattern)).map OpcodeRow.mnemonic

/-- The mnemonic of an operation's row in spec/opcode_table.json. -/
def Instr.mnemonic (i : Instr) : String :=
  match i with
  | .wStart _ _ => "W_START"
  | .rStart _ => "R_START"
  | .wStop _ _ => "W_STOP"
  | .rStop _ => "R_STOP"
  | .wLimit _ _ => "W_LIMIT"
  | .rLimit _ => "R_LIMIT"
  | .wClear _ _ => "W_CLEAR"
  | .rClear _ => "R_CLEAR"
  | .wShutdown _ _ => "W_SHUTDOWN"
  | .rShutdown _ => "R_SHUTDOWN"
  | .wIntenset _ _ => "W_INTENSET"
  | .rIntenset _ => "R_INTENSET"
  | .wIntenclr _ _ => "W_INTENCLR"
  | .rIntenclr _ => "R_INTENCLR"
  | .wMode _ _ => "W_MODE"
  | .rMode _ => "R_MODE"
  | .wBitmode _ _ => "W_BITMODE"
  | .rBitmode _ => "R_BITMODE"
  | .wPrescaler _ _ => "W_PRESCALER"
  | .rPrescaler _ => "R_PRESCALER"
  | .wCapture _ _ _ => "W_CAPTURE"
  | .rCapture _ _ => "R_CAPTURE"
  | .wCc _ _ _ => "W_CC"
  | .rCc _ _ => "R_CC"
  | .wDrive _ => "W_DRIVE"
  | .rDrive => "R_DRIVE"
  | .tick _ => "TICK"
  | .tReset _ => "T_RESET"
  | .tSave _ => "T_SAVE"
  | .tRestore _ _ => "T_RESTORE"
  | .lReset => "L_RESET"
  | .lSave => "L_SAVE"
  | .lRestore _ => "L_RESTORE"
  | .sinkAck _ _ => "SINK_ACK"
  | .tRBadoffset _ _ _ => "T_R_BADOFFSET"
  | .tWBadoffset _ _ _ _ => "T_W_BADOFFSET"
  | .lRBadoffset _ _ => "L_R_BADOFFSET"
  | .lWBadoffset _ _ _ => "L_W_BADOFFSET"

/-- Operands for a word of the table that gives none: instance 0, value 0, the one width with a
meaning (R64), the records of fresh devices, an empty subset. DESIGN CHOICE: log entry 9. -/
def Operands.blank (p : Params) : Operands :=
  { k := 0, value := 0#32, width := 4#8,
    timerRec := (Machine.Timer.fresh p).record, ledRec := Machine.Led.fresh.record,
    front := false, back := false }

/-- The request of a table word: its bits 14:0 are the selector (R81). A larger number is no selector;
it becomes an event whose code R82 does not list. -/
def Request.ofTableWord (p : Params) (w : Nat) : Request :=
  if w < 2 ^ 15 then Request.ofSelector (Operands.blank p) (BitVec.ofNat 15 w)
  else .event (.timer 0) 0x1FFF#13 .none

/-- The instruction the decoder reads from a word of spec/opcode_table.json. -/
def decodeTableWord (_nbits w : Nat) : Option Instr :=
  match decode Params.default (Request.ofTableWord Params.default w) with
  | .ok i => some i
  | .error _ => none

end Sys2Proof
end

