-- ==== Sys2Proof/Machine/State.lean ====
section
/-!
DEFINITION. The machine's state, its value after instantiation, and the reasons a step can stop.
-/

namespace Sys2Proof.Machine

/-- What the last operation returned to its caller: the u32 of a bus read (R80), the record of a SAVE
(R223), or nothing (a write, another event). DESIGN CHOICE: log entry 4. -/
inductive Response where
  | nothing
  | word (value : Word)
  | timerRecord (rec : TimerRecord)
  | ledRecord (rec : LedRecord)
deriving DecidableEq, Repr

/-- The whole machine. -/
structure State where
  /-- The parameters of R7; no operation changes them (R46). DESIGN CHOICE: held here, log entry 1. -/
  params : Params
  /-- The timer instances 0 .. `N_TIMERS` - 1 (R255). -/
  timers : List Timer
  /-- The LED decoder. -/
  led : Led
  /-- The operation stream the host has delivered (D1, R66). DESIGN CHOICE: log entry 3. -/
  stream : List Request
  /-- The position in the stream: it stands where a PC would (D1). -/
  pos : Nat
  /-- What the last operation returned. -/
  response : Response
deriving DecidableEq, Repr

/-- Why a step has no successor. The block itself never faults (R240). -/
inductive Fault where
  /-- Raised by TICK of a timer that is not Running: it "is neither performed nor refused: it has no
  step" (R170, R247, U27). DEDUCED: log entry 5. Safe: the run stops where the spec has no successor. -/
  | noTickStep (k : Nat)
deriving DecidableEq, Repr

/-- Why the model gives an operation no meaning (R247). Every one is safe: nothing can be proved of a
state after it. -/
inductive Refusal where
  /-- Raised by exec for an instruction without a meaning; no arm does. Safe. -/
  | notModelled (mnemonic : String)
  /-- R84, R247: raised by the fetch of a transaction whose width is not 1, 2 or 4. Safe. -/
  | badWidth (width : BitVec 8)
  /-- R84, R247: raised by the fetch of a transaction of width 1 or 2 under `NARROW_ACCESS = refuse`. Safe. -/
  | narrowAccess (width : BitVec 8)
  /-- R224, R225, R247: raised by T_RESTORE and L_RESTORE of a record that is not well formed. Safe. -/
  | badRecord
  /-- R82, R247: raised by the fetch of an event whose code is not listed. Safe. -/
  | unknownEvent (dev : Dev) (code : BitVec 13)
  /-- The model's own: raised by the fetch of a request to, or by an operation on, a timer instance outside
  0 .. `N_TIMERS` - 1 (R80). DESIGN CHOICE: log entry 6. Safe. -/
  | noSuchTimer (k : Nat)
  /-- The model's own: raised by the fetch of a RESTORE or SINK_ACK without the operand R82 gives it. DESIGN CHOICE:
  log entry 7. Safe. -/
  | wrongOperand (code : BitVec 13)
  /-- The model's own: raised by decoding an image-load event as if it were an operation. The fetch never
  does so (R231). Safe. -/
  | noSelector
deriving DecidableEq, Repr

/-- The outcome of an operation. -/
abbrev Result := Host.Outcome State Fault Refusal

/-- The machine right after instantiation (R47, R220), for a choice of parameters; the host has
delivered no operation. -/
def State.init (p : Params) : State :=
  { params := p
    timers := List.replicate p.nTimers (Timer.fresh p)
    led := Led.fresh
    stream := []
    pos := 0
    response := .nothing }

/-- The machine right after reset, under the spec's default parameters (R7, R47). PRESUMED: those of general
knowledge, log entry 2. -/
def State.reset : State :=
  State.init Params.default

end Sys2Proof.Machine
end

