-- ==== Sys2Proof/Machine/Ops.lean ====
section
/-!
DEFINITION. The shared operations every meaning is written over: acting on one timer instance,
reading one, acting on the LED decoder, appending a diagnostic record. The block has no trap, so there
is no shared trap entry (R250).
-/

namespace Sys2Proof.Machine

/-- The state with timer instance `k` replaced. -/
def State.putTimer (s : State) (k : Nat) (t : Timer) : State :=
  { s with timers := s.timers.set k t }

/-- The state with the LED decoder replaced. -/
def State.putLed (s : State) (l : Led) : State :=
  { s with led := l }

/-- The state in which the operation has returned `r` to its caller. -/
def State.respond (s : State) (r : Response) : State :=
  { s with response := r }

/-- The state past the operation at the stream position (D1). -/
def State.advance (s : State) : State :=
  { s with pos := s.pos + 1 }

/-- An operation that changes timer instance `k` and nothing else (R21), and returns `r`. -/
def updateTimer (k : Nat) (s : State) (r : Response) (f : Timer → Timer) : Result :=
  match s.timers[k]? with
  | some t => .next ((s.putTimer k (f t)).respond r)
  | none => .refused (.noSuchTimer k)

/-- A task or register write to timer instance `k`: a bus write returns nothing (R80). -/
def writeTimer (k : Nat) (s : State) (f : Timer → Timer) : Result :=
  updateTimer k s .nothing f

/-- An operation that changes nothing and returns what it reads of timer instance `k` (R67). -/
def queryTimer (k : Nat) (s : State) (f : Timer → Response) : Result :=
  match s.timers[k]? with
  | some t => .next (s.respond (f t))
  | none => .refused (.noSuchTimer k)

/-- A register read of timer instance `k`: it returns a u32 (R80). -/
def readTimer (k : Nat) (s : State) (f : Timer → Word) : Result :=
  queryTimer k s (fun t => .word (f t))

/-- An operation that changes the LED decoder and nothing else (R21), and returns `r`. -/
def updateLed (s : State) (r : Response) (f : Led → Led) : Result :=
  .next ((s.putLed (f s.led)).respond r)

/-- `diag(rec)` of a timer (R9, R241). -/
def Timer.log (t : Timer) (d : Diag) : Timer :=
  { t with diag := t.diag ++ [d] }

/-- `diag(rec)` of the LED decoder (R9, R241). -/
def Led.log (l : Led) (d : Diag) : Led :=
  { l with diag := l.diag ++ [d] }

/-- The refusal a step answers for a request that decodes to no operation (R247). -/
def Refusal.ofReject (e : Reject) : Refusal :=
  match e with
  | .badWidth w => .badWidth w
  | .narrowAccess w => .narrowAccess w
  | .unknownEvent dev code => .unknownEvent dev code
  | .noSuchTimer k => .noSuchTimer k
  | .wrongOperand code => .wrongOperand code
  | .noSelector => .noSelector

/-- The interrupt outputs: one level per timer instance, none for the LED decoder (R228). -/
def State.interruptOutputs (s : State) : List Bool :=
  s.timers.map Timer.interruptLine

end Sys2Proof.Machine
end

