-- ==== Sys2Proof/Machine/Operands.lean ====
section
/-!
DEFINITION. The fields of a written value (R85), the values registers read as (R41), and the check a
restored record must pass (R224, R225).
-/

namespace Sys2Proof.Machine

/-- MODE's field `m` (R85, R140): `value[0]`; every other bit is ignored. -/
def modeField (value : Word) : TimerMode :=
  if value.getLsbD 0 then .counter else .timer

/-- What a MODE read returns (R141). -/
def modeWord (m : TimerMode) : Word :=
  match m with
  | .timer => 0#32
  | .counter => 1#32

/-- BITMODE's field `code` (R85, R142): `value[1:0]`. -/
def bitmodeField (value : Word) : BitVec 2 :=
  value.extractLsb' 0 2

/-- PRESCALER's field `p` (R85, R145): `value[3:0]`. -/
def prescalerField (value : Word) : BitVec 4 :=
  value.extractLsb' 0 4

/-- INTENSET's and INTENCLR's field (R85): `value[INTEN_SHIFT+3 : INTEN_SHIFT]`. -/
def intenField (p : Params) (value : Word) : BitVec 4 :=
  value.extractLsb' p.intenShift 4

/-- What an INTENSET or INTENCLR read returns (R153): `zext_32(mask) << INTEN_SHIFT`. -/
def intenWord (p : Params) (mask : BitVec 4) : Word :=
  mask.setWidth 32 <<< p.intenShift

/-- DRIVE's field `rowSel` (R85, R191): `value[15:13]`. -/
def rowSelField (value : Word) : BitVec 3 :=
  value.extractLsb' 13 3

/-- The row a one-hot code selects; `none` for every other pattern (R191). -/
def rowOfCode (code : BitVec 3) : Option (Fin 3) :=
  if code = 0b001#3 then some 0
  else if code = 0b010#3 then some 1
  else if code = 0b100#3 then some 2
  else none

/-- The row a drive word selects, where its row select is valid (R191, R192). -/
def driveRow (value : Word) : Option (Fin 3) :=
  rowOfCode (rowSelField value)

/-- Column `c` is driven: active low, `value[4 + c] = 0` (R85, R193). -/
def columnDriven (value : Word) (c : Nat) : Bool :=
  !value.getLsbD (4 + c)

/-- The bits of row `r`'s connected cells whose column the drive word enables (R197). -/
def ledBits (p : Params) (r : Fin 3) (value : Word) : BitVec 25 :=
  (List.range 9).foldl
    (fun acc c => if columnDriven value c then acc ||| LedCell.bit (p.ledCell r c) else acc) 0#25

/-- `WellFormed(rec)` of a timer record (R224). -/
def timerRecordOk (rec : TimerRecord) : Bool :=
  !(rec.running && rec.pulsedStop) &&
    counterMasks.contains rec.latchedMask &&
    decide (rec.liveCounter ≤ rec.latchedMask) &&
    decide (rec.latchedPrescaler ≤ 9) &&
    decide (rec.prescaler ≤ 15) &&
    decide (rec.bitModeCode ≤ 3) &&
    decide (rec.interruptEnableMask ≤ 15) &&
    rec.activeLimit == (match rec.mode with
      | .counter => rec.softwareLimit
      | .timer => 0#32)

/-- The check of an LED record (R225): no bit above bit 24. -/
def ledRecordOk (rec : LedRecord) : Bool :=
  decide (rec.litMask ≤ 0x1FFFFFF#32)

/-- A drive read's value (R198): `zext_32(litMask)`. -/
def litWord (l : Led) : Word :=
  l.litMask.setWidth 32

end Sys2Proof.Machine
end

