-- ==== Sys2Proof/Machine/Flags.lean ====
section
/-!
DEFINITION. The flags of R10: a timer's run state and interrupt line, the LED decoder's redraw flags;
and the two shared sub-steps that compute with them, the limit reload (R40) and the latch (R112).
-/

namespace Sys2Proof.Machine

/-- The three states of the timer state machine (R27). -/
inductive RunState where
  | idle
  | running
  | paused
deriving DecidableEq, Repr

/-- The run state the pair (`running`, `pulsedStop`) encodes (R27). The pair (true, true) is
unreachable; it ticks, so it is named with `running`. -/
def Timer.runState (t : Timer) : RunState :=
  match t.running, t.pulsedStop with
  | true, _ => .running
  | false, true => .paused
  | false, false => .idle

/-- `raise_line()` (R9). -/
def Timer.raiseLine (t : Timer) : Timer :=
  { t with interruptLine := true }

/-- `lower_line()` (R9). -/
def Timer.lowerLine (t : Timer) : Timer :=
  { t with interruptLine := false }

/-- The limit a reload takes (R40): `softwareLimit` in COUNTER mode, 0 in TIMER mode. -/
def Timer.reloadValue (t : Timer) : Word :=
  match t.mode with
  | .counter => t.softwareLimit
  | .timer => 0#32

/-- `Reload()` (R40): it writes `activeLimit` and nothing else. -/
def Timer.reload (t : Timer) : Timer :=
  { t with activeLimit := t.reloadValue }

/-- `Latch()` (R112). -/
def Timer.latch (p : Params) (t : Timer) : Timer :=
  { t with
    latchedPrescaler := effectivePrescaler t.prescaler
    latchedMask := p.maskOf t.bitModeCode
    liveCounter := t.liveCounter &&& p.maskOf t.bitModeCode }

/-- `pendingRedraw` becomes Both (R43). -/
def Led.markRedraw (l : Led) : Led :=
  { l with redrawFront := true, redrawBack := true }

end Sys2Proof.Machine
end

