-- ==== Sys2Proof/Machine/BadOffset.lean ====
section
/-!
DEFINITION. The fallback operations (60_exceptions.md): accesses to offsets that name no register. A
read returns 0, a write is ignored, both are logged (R242); an offset of `UNIMPL_OFFSETS` in a timer's
window is logged as unimplemented instead (R84, R243). The recorded width is the one the access is
performed with (R64; DEDUCED: log entry 8); unimplemented offsets are a form of these operations, in a timer's window only (DEDUCED: log
entry 12).
-/

namespace Sys2Proof.Machine

/-- The record of a read of an unmapped timer offset (R84, R242, R243). -/
def timerReadDiag (p : Params) (k : Nat) (offset : Word) (width : BitVec 8) : Diag :=
  if p.isUnimplemented offset then .unimplementedRead (.timer k) offset
  else .badOffsetRead (.timer k) offset width

/-- The record of a write to an unmapped timer offset (R84, R242, R243). -/
def timerWriteDiag (p : Params) (k : Nat) (offset value : Word) (width : BitVec 8) : Diag :=
  if p.isUnimplemented offset then .unimplementedWrite (.timer k) offset value
  else .badOffsetWrite (.timer k) offset value width

/-- T_R_BADOFFSET (R242, R243). -/
def execTRBadoffset (k : Nat) (offset : Word) (width : BitVec 8) (s : State) : Result :=
  updateTimer k s (.word 0#32) (fun t => t.log (timerReadDiag s.params k offset width))

/-- T_W_BADOFFSET (R242, R243). -/
def execTWBadoffset (k : Nat) (offset value : Word) (width : BitVec 8) (s : State) : Result :=
  updateTimer k s .nothing (fun t => t.log (timerWriteDiag s.params k offset value width))

/-- L_R_BADOFFSET (R199, R242): the redraw flags are not set. -/
def execLRBadoffset (offset : Word) (width : BitVec 8) (s : State) : Result :=
  updateLed s (.word 0#32) (fun l => l.log (.badOffsetRead .led offset width))

/-- L_W_BADOFFSET (R199, R242). -/
def execLWBadoffset (offset value : Word) (width : BitVec 8) (s : State) : Result :=
  updateLed s .nothing (fun l => l.log (.badOffsetWrite .led offset value width))

end Sys2Proof.Machine
end

