-- ==== Sys2Proof/Machine/HostEvents.lean ====
section
/-!
DEFINITION. The host events (44_host_interface.md): RESET, SAVE and RESTORE of both devices, and the
presentation sink's acknowledgement.
-/

namespace Sys2Proof.Machine

/-- `ResetTimer()` (R221): every field but `diag` takes its value of R47. -/
def Timer.reset (p : Params) (t : Timer) : Timer :=
  { Timer.fresh p with diag := t.diag }

/-- `ResetLed()` (R222): `diag` is kept. -/
def Led.reset (l : Led) : Led :=
  { Led.fresh with diag := l.diag }

/-- The copy of a timer record's fields into a timer, `diag` kept (R224). -/
def Timer.restore (t : Timer) (rec : TimerRecord) : Timer :=
  { mode := rec.mode
    bitModeCode := BitVec.ofNat 2 rec.bitModeCode
    prescaler := BitVec.ofNat 4 rec.prescaler
    running := rec.running
    pulsedStop := rec.pulsedStop
    liveCounter := rec.liveCounter
    softwareLimit := rec.softwareLimit
    captureChannel := rec.captureChannel
    compareChannel := rec.compareChannel
    interruptEnableMask := BitVec.ofNat 4 rec.interruptEnableMask
    interruptLine := rec.interruptLine
    compareEvents := rec.compareEvents
    latchedMask := rec.latchedMask
    latchedPrescaler := BitVec.ofNat 4 rec.latchedPrescaler
    activeLimit := rec.activeLimit
    diag := t.diag }

/-- `RestoreLed(rec)` (R225): both redraw flags become pending, whatever the record holds. -/
def Led.restore (l : Led) (rec : LedRecord) : Led :=
  { l with litMask := rec.litMask.setWidth 25 }.markRedraw

/-- `SinkAck(P)` (R226). -/
def Led.ack (l : Led) (front back : Bool) : Led :=
  { l with redrawFront := l.redrawFront && !front, redrawBack := l.redrawBack && !back }

/-- T_RESET (R221). -/
def execTReset (k : Nat) (s : State) : Result :=
  writeTimer k s (Timer.reset s.params)

/-- T_SAVE (R223): it changes no state. -/
def execTSave (k : Nat) (s : State) : Result :=
  queryTimer k s (fun t => .timerRecord t.record)

/-- T_RESTORE (R224): a malformed record is refused; no tick is performed. -/
def execTRestore (k : Nat) (rec : TimerRecord) (s : State) : Result :=
  if timerRecordOk rec then writeTimer k s (fun t => t.restore rec) else .refused .badRecord

/-- L_RESET (R222). -/
def execLReset (s : State) : Result :=
  updateLed s .nothing Led.reset

/-- L_SAVE (R223): it changes no state. -/
def execLSave (s : State) : Result :=
  .next (s.respond (.ledRecord s.led.record))

/-- L_RESTORE (R225). -/
def execLRestore (rec : LedRecord) (s : State) : Result :=
  if ledRecordOk rec then updateLed s .nothing (fun l => l.restore rec) else .refused .badRecord

/-- SINK_ACK (R226). -/
def execSinkAck (front back : Bool) (s : State) : Result :=
  updateLed s .nothing (fun l => l.ack front back)

end Sys2Proof.Machine
end

