-- ==== Sys2Proof/Machine/LedMatrix.lean ====
section
/-!
DEFINITION. The LED matrix scan decoder (43_led_matrix.md): the drive word, written and read.
-/

namespace Sys2Proof.Machine

/-- `WriteDrive(value)` (R197); an invalid row select changes nothing (R192). `litMask` has 25 bits, so
the final AND with 0x1FFFFFF is its type. -/
def Led.drive (p : Params) (l : Led) (value : Word) : Led :=
  match driveRow value with
  | none => l
  | some r =>
    { l with litMask := (l.litMask &&& ~~~(p.rowClear r)) ||| ledBits p r value }.markRedraw

/-- W_DRIVE (R197). -/
def execWDrive (value : Word) (s : State) : Result :=
  updateLed s .nothing (fun l => l.drive s.params value)

/-- R_DRIVE (R198): returns `litMask` and marks a pending redraw. -/
def execRDrive (s : State) : Result :=
  updateLed s (.word (litWord s.led)) Led.markRedraw

end Sys2Proof.Machine
end

