-- ==== Sys2Proof/Machine/Registers.lean ====
section
/-!
DEFINITION. The configuration, compare and interrupt-enable registers (41_timer_config.md): MODE,
BITMODE, PRESCALER, LIMIT, CC[i], INTENSET, INTENCLR.
-/

namespace Sys2Proof.Machine

/-- `WriteMode(value)` (R140): it always reloads. -/
def Timer.writeMode (t : Timer) (value : Word) : Timer :=
  { t with mode := modeField value }.reload

/-- `WriteBitMode(value)` (R142): the latched mask is untouched. -/
def Timer.writeBitmode (t : Timer) (value : Word) : Timer :=
  { t with bitModeCode := bitmodeField value }

/-- `WritePrescaler(value)` (R145): the latched prescaler is untouched. -/
def Timer.writePrescaler (t : Timer) (value : Word) : Timer :=
  { t with prescaler := prescalerField value }

/-- `WriteLimit(value)` (R147): stored whole in COUNTER mode, ignored in TIMER mode. -/
def Timer.writeLimit (t : Timer) (value : Word) : Timer :=
  match t.mode with
  | .counter => { t with softwareLimit := value }.reload
  | .timer => t

/-- `WriteCompare(i, value)` (R149): stored whole. -/
def Timer.writeCompare (t : Timer) (i : Channel) (value : Word) : Timer :=
  { t with compareChannel := t.compareChannel.set i value }

/-- `WriteIntEnSet(value)` (R151). -/
def Timer.enable (p : Params) (t : Timer) (value : Word) : Timer :=
  { t with interruptEnableMask := t.interruptEnableMask ||| intenField p value }

/-- `WriteIntEnClr(value)` (R152). -/
def Timer.disable (p : Params) (t : Timer) (value : Word) : Timer :=
  { t with interruptEnableMask := t.interruptEnableMask &&& ~~~(intenField p value) }

/-- W_LIMIT (R147). -/
def execWLimit (k : Nat) (value : Word) (s : State) : Result :=
  writeTimer k s (fun t => t.writeLimit value)

/-- R_LIMIT (R148): in either mode. -/
def execRLimit (k : Nat) (s : State) : Result :=
  readTimer k s Timer.softwareLimit

/-- W_INTENSET (R151). -/
def execWIntenset (k : Nat) (value : Word) (s : State) : Result :=
  writeTimer k s (fun t => t.enable s.params value)

/-- R_INTENSET (R153). -/
def execRIntenset (k : Nat) (s : State) : Result :=
  readTimer k s (fun t => intenWord s.params t.interruptEnableMask)

/-- W_INTENCLR (R152). -/
def execWIntenclr (k : Nat) (value : Word) (s : State) : Result :=
  writeTimer k s (fun t => t.disable s.params value)

/-- R_INTENCLR (R153). -/
def execRIntenclr (k : Nat) (s : State) : Result :=
  readTimer k s (fun t => intenWord s.params t.interruptEnableMask)

/-- W_MODE (R140). -/
def execWMode (k : Nat) (value : Word) (s : State) : Result :=
  writeTimer k s (fun t => t.writeMode value)

/-- R_MODE (R141). -/
def execRMode (k : Nat) (s : State) : Result :=
  readTimer k s (fun t => modeWord t.mode)

/-- W_BITMODE (R142). -/
def execWBitmode (k : Nat) (value : Word) (s : State) : Result :=
  writeTimer k s (fun t => t.writeBitmode value)

/-- R_BITMODE (R143): the last code written, not the latched mask. -/
def execRBitmode (k : Nat) (s : State) : Result :=
  readTimer k s (fun t => t.bitModeCode.setWidth 32)

/-- W_PRESCALER (R145). -/
def execWPrescaler (k : Nat) (value : Word) (s : State) : Result :=
  writeTimer k s (fun t => t.writePrescaler value)

/-- R_PRESCALER (R146): the stored field, not the latched prescaler. -/
def execRPrescaler (k : Nat) (s : State) : Result :=
  readTimer k s (fun t => t.prescaler.setWidth 32)

/-- W_CC (R149). -/
def execWCc (k : Nat) (i : Channel) (value : Word) (s : State) : Result :=
  writeTimer k s (fun t => t.writeCompare i value)

/-- R_CC (R150). -/
def execRCc (k : Nat) (i : Channel) (s : State) : Result :=
  readTimer k s (fun t => t.compareChannel.get i)

end Sys2Proof.Machine
end

