-- ==== Sys2Proof/Machine/Tasks.lean ====
section
/-!
DEFINITION. The timer tasks and the timer state machine (40_timer_tasks.md): START, STOP, CLEAR,
SHUTDOWN, CAPTURE[i], written and read. A task write of any value triggers (R110).
-/

namespace Sys2Proof.Machine

/-- `Start()` (R111): resume from Paused; otherwise latch and reload. -/
def Timer.start (p : Params) (t : Timer) : Timer :=
  if t.pulsedStop then { t with running := true, pulsedStop := false }
  else { (t.latch p).reload with running := true, pulsedStop := false }

/-- `Stop()` (R113), and no change where the timer is not running (R114). -/
def Timer.stop (t : Timer) : Timer :=
  if t.running then { t with running := false, pulsedStop := true } else t

/-- `Clear()` (R115). -/
def Timer.clear (t : Timer) : Timer :=
  { t with liveCounter := 0#32 }.reload

/-- `Shutdown()` (R116). -/
def Timer.shutdown (t : Timer) : Timer :=
  { { t with running := false, liveCounter := 0#32 }.reload with pulsedStop := false }

/-- `Capture(i)` (R117). -/
def Timer.capture (t : Timer) (i : Channel) : Timer :=
  { t with captureChannel := t.captureChannel.set i t.liveCounter }

/-- What a task register reads as (R119): 0. -/
def taskWord : Word := 0#32

/-- W_START (R111). -/
def execWStart (k : Nat) (_value : Word) (s : State) : Result :=
  writeTimer k s (Timer.start s.params)

/-- R_START (R119). -/
def execRStart (k : Nat) (s : State) : Result :=
  readTimer k s (fun _ => taskWord)

/-- W_STOP (R113, R114). -/
def execWStop (k : Nat) (_value : Word) (s : State) : Result :=
  writeTimer k s Timer.stop

/-- R_STOP (R119). -/
def execRStop (k : Nat) (s : State) : Result :=
  readTimer k s (fun _ => taskWord)

/-- W_CLEAR (R115). -/
def execWClear (k : Nat) (_value : Word) (s : State) : Result :=
  writeTimer k s Timer.clear

/-- R_CLEAR (R119). -/
def execRClear (k : Nat) (s : State) : Result :=
  readTimer k s (fun _ => taskWord)

/-- W_SHUTDOWN (R116). -/
def execWShutdown (k : Nat) (_value : Word) (s : State) : Result :=
  writeTimer k s Timer.shutdown

/-- R_SHUTDOWN (R119). -/
def execRShutdown (k : Nat) (s : State) : Result :=
  readTimer k s (fun _ => taskWord)

/-- W_CAPTURE (R117): the written value is ignored. -/
def execWCapture (k : Nat) (i : Channel) (_value : Word) (s : State) : Result :=
  writeTimer k s (fun t => t.capture i)

/-- R_CAPTURE (R118). -/
def execRCapture (k : Nat) (i : Channel) (s : State) : Result :=
  readTimer k s (fun t => t.captureChannel.get i)

end Sys2Proof.Machine
end

