-- ==== Sys2Proof/Machine/Tick.lean ====
section
/-!
DEFINITION. The tick engine and the capture/compare unit (42_tick_engine.md): the TICK event.
-/

namespace Sys2Proof.Machine

/-- Step 1 of R171. The integer sum masked by at most 0xFFFFFFFF is the 32-bit sum masked. -/
def Timer.count (t : Timer) : Timer :=
  { t with liveCounter := (t.liveCounter + 1#32) &&& t.latchedMask }

/-- Step 2 of R171, the COUNTER-mode branch (R172). -/
def Timer.compareLimit (t : Timer) : Timer :=
  if t.liveCounter = t.softwareLimit then { t with liveCounter := 0#32 }.raiseLine
  else t.lowerLine

/-- One turn of step 3's loop (R173): channel `i`, where it is enabled. -/
def Timer.evalChannel (t : Timer) (i : Channel) : Timer :=
  if t.interruptEnableMask.getLsbD i.val then
    if t.compareChannel.get i = t.liveCounter then
      { t with compareEvents := t.compareEvents.set i (t.compareEvents.get i + 1#32) }.raiseLine
    else t.lowerLine
  else t

/-- Step 3 of R171, the TIMER-mode branch: channels 0 to 3 in that order (R173, R249). -/
def Timer.evalChannels (t : Timer) : Timer :=
  ([0, 1, 2, 3] : List Channel).foldl Timer.evalChannel t

/-- `Tick()` (R171). -/
def Timer.tick (t : Timer) : Timer :=
  match t.mode with
  | .counter => t.count.compareLimit
  | .timer => t.count.evalChannels

/-- The tick period (R180): 2^latchedPrescaler base clocks, each 1 / `BASE_FREQ_HZ` seconds. Given as
numerator and denominator; no operation reads it. -/
def Timer.tickPeriod (p : Params) (t : Timer) : Nat × Nat :=
  (2 ^ t.latchedPrescaler.toNat, p.baseFreqHz)

/-- TICK (R170): it exists only while the timer is running; otherwise there is no step. -/
def execTick (k : Nat) (s : State) : Result :=
  match s.timers[k]? with
  | some t => if t.running then writeTimer k s Timer.tick else .fault (.noTickStep k)
  | none => .refused (.noSuchTimer k)

end Sys2Proof.Machine
end

