-- ==== Sys2Proof/Machine/Dispatch.lean ====
section
/-!
DEFINITION. The meaning of every operation, one arm for each row of spec/opcode_table.json.
-/

namespace Sys2Proof.Machine

def exec (i : Instr) (s : State) : Host.Outcome State Fault Refusal :=
  match i with
  | .wStart k value => Sys2Proof.Machine.execWStart k value s
  | .rStart k => Sys2Proof.Machine.execRStart k s
  | .wStop k value => Sys2Proof.Machine.execWStop k value s
  | .rStop k => Sys2Proof.Machine.execRStop k s
  | .wLimit k value => Sys2Proof.Machine.execWLimit k value s
  | .rLimit k => Sys2Proof.Machine.execRLimit k s
  | .wClear k value => Sys2Proof.Machine.execWClear k value s
  | .rClear k => Sys2Proof.Machine.execRClear k s
  | .wShutdown k value => Sys2Proof.Machine.execWShutdown k value s
  | .rShutdown k => Sys2Proof.Machine.execRShutdown k s
  | .wIntenset k value => Sys2Proof.Machine.execWIntenset k value s
  | .rIntenset k => Sys2Proof.Machine.execRIntenset k s
  | .wIntenclr k value => Sys2Proof.Machine.execWIntenclr k value s
  | .rIntenclr k => Sys2Proof.Machine.execRIntenclr k s
  | .wMode k value => Sys2Proof.Machine.execWMode k value s
  | .rMode k => Sys2Proof.Machine.execRMode k s
  | .wBitmode k value => Sys2Proof.Machine.execWBitmode k value s
  | .rBitmode k => Sys2Proof.Machine.execRBitmode k s
  | .wPrescaler k value => Sys2Proof.Machine.execWPrescaler k value s
  | .rPrescaler k => Sys2Proof.Machine.execRPrescaler k s
  | .wCapture k ch value => Sys2Proof.Machine.execWCapture k ch value s
  | .rCapture k ch => Sys2Proof.Machine.execRCapture k ch s
  | .wCc k ch value => Sys2Proof.Machine.execWCc k ch value s
  | .rCc k ch => Sys2Proof.Machine.execRCc k ch s
  | .wDrive value => Sys2Proof.Machine.execWDrive value s
  | .rDrive => Sys2Proof.Machine.execRDrive s
  | .tick k => Sys2Proof.Machine.execTick k s
  | .tReset k => Sys2Proof.Machine.execTReset k s
  | .tSave k => Sys2Proof.Machine.execTSave k s
  | .tRestore k rec => Sys2Proof.Machine.execTRestore k rec s
  | .lReset => Sys2Proof.Machine.execLReset s
  | .lSave => Sys2Proof.Machine.execLSave s
  | .lRestore rec => Sys2Proof.Machine.execLRestore rec s
  | .sinkAck front back => Sys2Proof.Machine.execSinkAck front back s
  | .tRBadoffset k offset width => Sys2Proof.Machine.execTRBadoffset k offset width s
  | .tWBadoffset k offset value width => Sys2Proof.Machine.execTWBadoffset k offset value width s
  | .lRBadoffset offset width => Sys2Proof.Machine.execLRBadoffset offset width s
  | .lWBadoffset offset value width => Sys2Proof.Machine.execLWBadoffset offset value width s

end Sys2Proof.Machine
end

