-- ==== Sys2Proof/Machine/Fetch.lean ====
section
/-!
DEFINITION. Taking the next operation from the stream (D1, R66) and finishing a step: what
`Sys2Proof/Machine/Step.lean` calls.
-/

namespace Sys2Proof.Machine

/-- What stands at the stream position. -/
inductive Fetched where
  /-- The host has delivered no further operation: the block executes nothing (R270).
  DESIGN CHOICE: log entry 3. -/
  | idle
  /-- An image-load event: it changes no state of a device (R231). -/
  | noEffect
  /-- An operation. -/
  | run (i : Instr)
  /-- A request the model gives no meaning (R247). -/
  | reject (e : Reject)
deriving DecidableEq, Repr

/-- The request at the stream position, decoded. -/
def State.fetch (s : State) : Fetched :=
  match s.stream[s.pos]? with
  | none => .idle
  | some .imageLoad => .noEffect
  | some (.bus dev dir offset width value) =>
    match decode s.params (.bus dev dir offset width value) with
    | .ok i => .run i
    | .error e => .reject e
  | some (.event dev code arg) =>
    match decode s.params (.event dev code arg) with
    | .ok i => .run i
    | .error e => .reject e

/-- A performed operation moves the stream position past itself. -/
def finish (o : Result) : Result :=
  match o with
  | .next s => .next s.advance
  | .fault f => .fault f
  | .refused r => .refused r

/-- One step: perform the operation at the stream position, or nothing where there is none. -/
def runNext (s : State) : Result :=
  match s.fetch with
  | .idle => .next s
  | .noEffect => finish (.next s)
  | .run i => finish (exec i s)
  | .reject e => .refused (Refusal.ofReject e)

/-- The stream with request `r` at position `n`, in place of the one that stands there. -/
def placeAt (stream : List Request) (n : Nat) (r : Request) : List Request :=
  stream.take n ++ r :: stream.drop (n + 1)

end Sys2Proof.Machine
end

