-- ==== Sys2Proof/Machine/Step.lean ====
section
/-!
DEFINITION. The step of the machine, and the placing of one operation where it takes its next.
-/

namespace Sys2Proof.Machine

/-- One operation of the stream (R66). -/
def step (s : State) : Host.Outcome State Fault Refusal :=
  runNext s

/-- The state with the operation of a table word (its operands blank) placed where `step` takes its
next operation. Where the position lies past the end of the stream, it moves to the end. DESIGN CHOICE: log entry 10. -/
def State.withFetchWord (s : State) (_nbits w : Nat) : State :=
  { s with
    stream := placeAt s.stream s.pos (Request.ofTableWord s.params w)
    pos := min s.pos s.stream.length }

end Sys2Proof.Machine
end

