-- ==== Sys2Proof/Safety.lean ====
section
/-!
DEFINITION. The terms claims are stated in: the invariants of the machine, a sequence of operations,
what an observer of the block without its diagnostic lists sees, and the frame of a timer operation.
-/

/-- The operation is not a RESTORE of a timer record that is Idle with a nonzero counter (the
exception R121 makes). -/
def Sys2Proof.Instr.keepsIdleZero (i : Sys2Proof.Instr) : Bool :=
  match i with
  | .tRestore _ rec => rec.running || rec.pulsedStop || rec.liveCounter == 0#32
  | .wStart _ _ | .rStart _ | .wStop _ _ | .rStop _ | .wLimit _ _ | .rLimit _
  | .wClear _ _ | .rClear _ | .wShutdown _ _ | .rShutdown _
  | .wIntenset _ _ | .rIntenset _ | .wIntenclr _ _ | .rIntenclr _
  | .wMode _ _ | .rMode _ | .wBitmode _ _ | .rBitmode _ | .wPrescaler _ _ | .rPrescaler _
  | .wCapture _ _ _ | .rCapture _ _ | .wCc _ _ _ | .rCc _ _
  | .wDrive _ | .rDrive | .tick _ | .tReset _ | .tSave _
  | .lReset | .lSave | .lRestore _ | .sinkAck _ _
  | .tRBadoffset _ _ _ | .tWBadoffset _ _ _ _ | .lRBadoffset _ _ | .lWBadoffset _ _ _ => true

namespace Sys2Proof.Machine

/-- The invariants the spec gives a timer in every state: never running and soft-stopped at once
(R27), a latched mask of one of the four widths (R36), the counter within it (R28), a latched
prescaler of 0..9 (R37), the active limit the mode's own (R39). -/
abbrev Timer.Inv (t : Timer) : Prop :=
  ¬(t.running = true ∧ t.pulsedStop = true) ∧
  t.latchedMask ∈ counterMasks ∧
  t.liveCounter ≤ t.latchedMask ∧
  t.latchedPrescaler ≤ 9#4 ∧
  t.activeLimit = t.reloadValue

/-- Every timer instance of R255 exists and meets its invariants. -/
abbrev State.Inv (s : State) : Prop :=
  s.timers.length = s.params.nTimers ∧ ∀ t ∈ s.timers, t.Inv

/-- The invariant R121 (b): an Idle timer's counter is 0. -/
abbrev State.IdleZero (s : State) : Prop :=
  ∀ t ∈ s.timers, t.runState = .idle → t.liveCounter = 0#32

/-- The operations of a list, one after another, as `exec` performs them; it stops where one does. -/
def execAll (is : List Instr) (s : State) : Result :=
  match is with
  | [] => .next s
  | i :: rest =>
    match exec i s with
    | .next s' => execAll rest s'
    | .fault f => .fault f
    | .refused r => .refused r

/-- The timer with its diagnostic list emptied. -/
def Timer.forgetDiag (t : Timer) : Timer :=
  { t with diag := [] }

/-- The LED decoder with its diagnostic list emptied. -/
def Led.forgetDiag (l : Led) : Led :=
  { l with diag := [] }

/-- The state with every diagnostic list emptied: what no diagnostic reader sees (R35, R241). -/
def State.forgetDiag (s : State) : State :=
  { s with timers := s.timers.map Timer.forgetDiag, led := s.led.forgetDiag }

/-- An outcome seen through `forgetDiag`. -/
def forgetDiagOutcome (o : Result) : Result :=
  match o with
  | .next s => .next s.forgetDiag
  | .fault f => .fault f
  | .refused r => .refused r

/-- From `s` to `s'` nothing changed but device `d` and the response (R21). -/
abbrev State.SameExcept (s s' : State) (d : Dev) : Prop :=
  s'.params = s.params ∧ s'.stream = s.stream ∧ s'.pos = s.pos ∧
  s'.timers.length = s.timers.length ∧
  (∀ k, d ≠ .timer k → s'.timers[k]? = s.timers[k]?) ∧
  (d ≠ .led → s'.led = s.led)

/-- The last valid drive word of row `r` in a sequence of them (R201). -/
def lastValid (r : Fin 3) (ws : List Word) : Option Word :=
  ws.foldl (fun acc w => if driveRow w = some r then some w else acc) none

/-- The highest channel whose enable bit is set (R175). -/
def Timer.highestEnabled (t : Timer) : Option Channel :=
  if t.interruptEnableMask.getLsbD 3 then some 3
  else if t.interruptEnableMask.getLsbD 2 then some 2
  else if t.interruptEnableMask.getLsbD 1 then some 1
  else if t.interruptEnableMask.getLsbD 0 then some 0
  else none

end Sys2Proof.Machine
end

