-- ==== Sys2Proof/Certificates/Slice0/Obligations.lean ====
section
/-!
DEFINITION. The statements for the provers. Each docstring names the rules it formalises.
The block holds no memory (R60), so no frame speaks of bytes of memory: an equation
`exec i s = .next { s with … }` says at once the result and that everything it does not name is
unchanged, in every other device too.
-/

open Sys2Proof Sys2Proof.Machine

/-! ### Decoding and encoding -/

/-- R83, R84, R90: decoding the encoding of a well-formed operation gives it back, whatever well-formed
register map the machine has. -/
def Obligations.DecodeOfEncode : Prop :=
  ∀ (p : Params) (i : Instr), p.wf = true → i.wf p = true → decode p (encode p i) = .ok i

/-- R84, R90: under the default map, the decoder of R84 and the decoder built from the opcode table (most
specific row first, fallback rows last) name the same row for every selector and all operands. -/
def Obligations.TableDecoderAgreesWithDecode : Prop :=
  ∀ (o : Operands) (sel : BitVec 15), o.k < Params.default.nTimers → o.width = 4#8 →
    tableMnemonic sel =
      match decode Params.default (Request.ofSelector o sel) with
      | .ok i => some i.mnemonic
      | .error _ => none

/-- R81: the selector of an encoded operation lies in the operation's own row of the opcode table. -/
def Obligations.EncodedSelectorIsInItsRow : Prop :=
  ∀ i : Instr, i.wf Params.default = true →
    ∃ (sel : BitVec 15) (row : OpcodeRow),
      i.selector Params.default = some sel ∧ row ∈ opcodeTable ∧
      row.mnemonic = i.mnemonic ∧ sel &&& row.mask = row.pattern

/-- R81, R83: words written out from the spec's encodings decode to the operations they stand for. The operands
a word does not carry are the model's choice, log entry 9. -/
def Obligations.WrittenOutSelectorsDecode : Prop :=
  decodeTableWord 16 0b001000000000000 = some (.wStart 0 0#32) ∧
  decodeTableWord 16 0b001000001000100 = some (.wCapture 0 1 0#32) ∧
  decodeTableWord 16 0b000010101001000 = some (.rCc 0 2) ∧
  decodeTableWord 16 0b011000000000000 = some (.wDrive 0#32) ∧
  decodeTableWord 16 0b100000000000000 = some (.tick 0) ∧
  decodeTableWord 16 0b110000000000100 = some (.sinkAck false false) ∧
  decodeTableWord 16 0b000000100000000 = some (.tRBadoffset 0 0x100#32 4#8)

/-- R64, R84: a width outside 1, 2, 4 is refused under either setting; 1 and 2 are refused under
`refuse`, and under `as_word` an access, to whatever offset, decodes as the access of width 4. -/
def Obligations.AccessWidths : Prop :=
  ∀ (p : Params) (dev : Dev) (dir : Dir) (offset value : Word) (width : BitVec 8),
    p.hasDev dev = true →
    (width ≠ 1#8 → width ≠ 2#8 → width ≠ 4#8 →
      decode p (.bus dev dir offset width value) = .error (.badWidth width)) ∧
    ((width = 1#8 ∨ width = 2#8) → p.narrowAccess = .refuse →
      decode p (.bus dev dir offset width value) = .error (.narrowAccess width)) ∧
    ((width = 1#8 ∨ width = 2#8) → p.narrowAccess = .asWord →
      decode p (.bus dev dir offset width value) = decode p (.bus dev dir offset 4#8 value))

/-- R63, R84, R86, R199: an offset outside the window, or not a multiple of 4, or that the map does not
name, decodes to the fallback operation of its device and direction, under `as_word` for widths 1 and 2 too.
The operation carries the width of the 32-bit transaction R64 performs the access as; that this is the width to
be recorded is the model's inference, log entry 8. -/
def Obligations.ReservedOffsetsDecodeToFallback : Prop :=
  ∀ (p : Params) (k : Nat) (offset value : Word) (width : BitVec 8),
    p.widthAllowed width = true →
    (k < p.nTimers →
      (p.windowSize ≤ offset.toNat ∨ offset.toNat % 4 ≠ 0 ∨ ∀ r, p.offsetOf r ≠ offset) →
      decode p (.bus (.timer k) .read offset width value) = .ok (.tRBadoffset k offset 4#8) ∧
      decode p (.bus (.timer k) .write offset width value) = .ok (.tWBadoffset k offset value 4#8)) ∧
    ((p.windowSize ≤ offset.toNat ∨ offset.toNat % 4 ≠ 0 ∨ offset ≠ p.ledDriveOffset) →
      decode p (.bus .led .read offset width value) = .ok (.lRBadoffset offset 4#8) ∧
      decode p (.bus .led .write offset width value) = .ok (.lWBadoffset offset value 4#8))

/-- R82: the host events and their codes; every other code is refused. That an operand beside a TICK, a RESET or
a SAVE, which take none, is ignored is the model's choice, log entry 7. -/
def Obligations.HostEventCodes : Prop :=
  ∀ (p : Params) (k : Nat) (code : BitVec 13) (arg : EventArg) (trec : TimerRecord) (lrec : LedRecord)
    (front back : Bool), k < p.nTimers →
    decode p (.event (.timer k) 0x0#13 arg) = .ok (.tick k) ∧
    decode p (.event (.timer k) 0x1#13 arg) = .ok (.tReset k) ∧
    decode p (.event (.timer k) 0x2#13 arg) = .ok (.tSave k) ∧
    decode p (.event (.timer k) 0x3#13 (.timerRecord trec)) = .ok (.tRestore k trec) ∧
    decode p (.event .led 0x1#13 arg) = .ok .lReset ∧
    decode p (.event .led 0x2#13 arg) = .ok .lSave ∧
    decode p (.event .led 0x3#13 (.ledRecord lrec)) = .ok (.lRestore lrec) ∧
    decode p (.event .led 0x4#13 (.parts front back)) = .ok (.sinkAck front back) ∧
    (3#13 < code →
      decode p (.event (.timer k) code arg) = .error (.unknownEvent (.timer k) code)) ∧
    ((code = 0#13 ∨ 4#13 < code) →
      decode p (.event .led code arg) = .error (.unknownEvent .led code)) ∧
    (Request.event (.timer k) code arg).selector = some (0x4000#15 ||| code.setWidth 15) ∧
    (Request.event .led code arg).selector = some (0x6000#15 ||| code.setWidth 15) ∧
    Request.imageLoad.selector = none

/-! ### The step -/

/-- D1, R66: where the request at the stream position decodes to `i`, a step is `exec i`, and a performed
operation moves the position by one. -/
def Obligations.StepRunsDecodedOperation : Prop :=
  ∀ (s : State) (r : Request) (i : Instr),
    s.stream[s.pos]? = some r → decode s.params r = .ok i →
    step s = match exec i s with
      | .next s' => .next { s' with pos := s.pos + 1 }
      | .fault f => .fault f
      | .refused e => .refused e

/-- Where there is no operation a step changes nothing (the model's choice, log entry 3, on R270's "it
executes nothing until the host delivers an operation"); an image-load event only moves the position (R231);
a request that decodes to no operation is refused by the name of the reason (R247). -/
def Obligations.StepWithoutOperation : Prop :=
  ∀ s : State,
    (s.stream.length ≤ s.pos → step s = .next s) ∧
    (s.stream[s.pos]? = some .imageLoad → step s = .next { s with pos := s.pos + 1 }) ∧
    (∀ r e, s.stream[s.pos]? = some r → r ≠ .imageLoad → decode s.params r = .error e →
      step s = .refused (Refusal.ofReject e))

/-! ### Invariants and whole-machine rules -/

/-- R47, R121: instantiation under any choice of parameters meets the invariants, and an Idle timer's
counter is 0. -/
def Obligations.InstantiationMeetsInvariants : Prop :=
  ∀ p : Params, (State.init p).Inv ∧ (State.init p).IdleZero

/-- R27, R28, R36, R37, R39: every step keeps the invariants, in every state that has them. -/
def Obligations.StepKeepsInvariants : Prop :=
  ∀ s s' : State, s.Inv → step s = .next s' → s'.Inv

/-- R121 (b): every operation but a RESTORE of an Idle record with a nonzero counter keeps the counter of
an Idle timer at 0. -/
def Obligations.OperationsKeepIdleCounterZero : Prop :=
  ∀ (s s' : State) (i : Instr), s.IdleZero → i.keepsIdleZero = true → exec i s = .next s' →
    s'.IdleZero

/-- R21, R46, R73: an operation changes its own device and the response, and nothing else: no parameter, no
other device, nothing of the stream. -/
def Obligations.OnlyTheTargetDeviceChanges : Prop :=
  ∀ (s s' : State) (i : Instr), exec i s = .next s' → s.SameExcept s' i.target

/-- R21, R73: what an operation does to its device, and what it returns, depends on that device and the
parameters alone. -/
def Obligations.OutcomeDependsOnTargetDeviceOnly : Prop :=
  ∀ (i : Instr) (a b a' : State), a.params = b.params → exec i a = .next a' →
    (∀ k, i.target = .timer k → a.timers[k]? = b.timers[k]? →
      ∃ b', exec i b = .next b' ∧ b'.timers[k]? = a'.timers[k]? ∧ b'.response = a'.response) ∧
    (i.target = .led → a.led = b.led →
      ∃ b', exec i b = .next b' ∧ b'.led = a'.led ∧ b'.response = a'.response)

/-- R240, R247, R121: in every state with the invariants, every well-formed operation is performed, but for a
TICK of a timer that is not running and a RESTORE of a malformed record. -/
def Obligations.WellFormedOperationsComplete : Prop :=
  ∀ (s : State) (i : Instr), s.Inv → i.wf s.params = true →
    (∀ k t, i = .tick k → s.timers[k]? = some t → t.running = true) →
    (∀ k rec, i = .tRestore k rec → timerRecordOk rec = true) →
    (∀ rec, i = .lRestore rec → ledRecordOk rec = true) →
    ∃ s', exec i s = .next s' ∧ s.SameExcept s' i.target

/-- R170, R240: no operation faults, but a TICK of a timer that is not running has no step, which the model
answers as a fault (log entry 5). -/
def Obligations.OnlyTickOfStoppedTimerHasNoStep : Prop :=
  ∀ (s : State) (i : Instr) (f : Fault), exec i s = .fault f ↔
    ∃ k t, i = .tick k ∧ f = .noTickStep k ∧ s.timers[k]? = some t ∧ t.running = false

/-- R224, R225, R247: the refusals of operations: a malformed record, or (the model's own, log entry 6) a
timer instance that does not exist. -/
def Obligations.OperationRefusals : Prop :=
  ∀ (s : State) (i : Instr) (e : Refusal), exec i s = .refused e →
    (e = .badRecord ∧ ((∃ k rec, i = .tRestore k rec ∧ timerRecordOk rec = false) ∨
      (∃ rec, i = .lRestore rec ∧ ledRecordOk rec = false))) ∨
    (∃ k, e = .noSuchTimer k ∧ i.target = .timer k ∧ s.timers.length ≤ k)

/-- R33, R248, R251: only a tick, a reset and a restore change a timer's interrupt line. -/
def Obligations.LineChangesOnlyAtTickResetRestore : Prop :=
  ∀ (s s' : State) (i : Instr) (k : Nat) (t t' : Timer), exec i s = .next s' →
    s.timers[k]? = some t → s'.timers[k]? = some t' → t'.interruptLine ≠ t.interruptLine →
    i = .tick k ∨ i = .tReset k ∨ ∃ rec, i = .tRestore k rec

/-- R28: the writers of the live counter. -/
def Obligations.CounterWriters : Prop :=
  ∀ (s s' : State) (i : Instr) (k : Nat) (t t' : Timer), exec i s = .next s' →
    s.timers[k]? = some t → s'.timers[k]? = some t' → t'.liveCounter ≠ t.liveCounter →
    i = .tick k ∨ (∃ v, i = .wClear k v) ∨ (∃ v, i = .wShutdown k v) ∨
    (∃ v, i = .wStart k v ∧ t.pulsedStop = false) ∨ i = .tReset k ∨ ∃ rec, i = .tRestore k rec

/-- R36, R37, R275, R276: only a reloading Start, a reset and a restore change the latched mask or the
latched prescaler. -/
def Obligations.LatchedFieldsWriters : Prop :=
  ∀ (s s' : State) (i : Instr) (k : Nat) (t t' : Timer), exec i s = .next s' →
    s.timers[k]? = some t → s'.timers[k]? = some t' →
    (t'.latchedMask ≠ t.latchedMask ∨ t'.latchedPrescaler ≠ t.latchedPrescaler) →
    (∃ v, i = .wStart k v ∧ t.pulsedStop = false) ∨ i = .tReset k ∨ ∃ rec, i = .tRestore k rec

/-- R35, R44, R221, R222: the diagnostic lists only grow, and only the fallback operations make them grow. -/
def Obligations.DiagIsAppendOnly : Prop :=
  ∀ (s s' : State) (i : Instr), exec i s = .next s' →
    (∀ (k : Nat) (t t' : Timer), s.timers[k]? = some t → s'.timers[k]? = some t' →
      (∃ d, t'.diag = t.diag ++ d) ∧
      (t'.diag ≠ t.diag → (∃ off w, i = .tRBadoffset k off w) ∨ ∃ off v w, i = .tWBadoffset k off v w)) ∧
    (∃ d, s'.led.diag = s.led.diag ++ d) ∧
    (s'.led.diag ≠ s.led.diag → (∃ off w, i = .lRBadoffset off w) ∨ ∃ off v w, i = .lWBadoffset off v w)

/-- R35, R241: a diagnostic list changes nothing a program or the host sees elsewhere: every sequence of
operations ends alike, and returns alike, from two states that differ only in those lists. -/
def Obligations.DiagIsInvisible : Prop :=
  ∀ (is : List Instr) (s : State),
    forgetDiagOutcome (execAll is s.forgetDiag) = forgetDiagOutcome (execAll is s)

/-- R67: no read but the drive-word read and the reads of unmapped offsets has a side effect. -/
def Obligations.ReadsHaveNoSideEffect : Prop :=
  ∀ (s : State) (k : Nat) (ch : Channel) (i : Instr),
    i ∈ ([.rStart k, .rStop k, .rLimit k, .rClear k, .rShutdown k, .rIntenset k, .rIntenclr k, .rMode k,
      .rBitmode k, .rPrescaler k, .rCapture k ch, .rCc k ch, .tSave k] : List Instr) →
    k < s.timers.length →
    ∃ r, exec i s = .next { s with response := r } ∧
      ∀ r', exec i { s with response := r' } = .next { s with response := r }

/-- R120: the transitions of the run state. -/
def Obligations.RunStateTransitions : Prop :=
  ∀ (s : State) (k : Nat) (t : Timer) (i : Instr) (s' : State) (t' : Timer),
    s.timers[k]? = some t → ¬(t.running = true ∧ t.pulsedStop = true) →
    exec i s = .next s' → s'.timers[k]? = some t' →
    ((∃ v, i = .wStart k v) → t'.runState = .running) ∧
    ((∃ v, i = .wStop k v) →
      t'.runState = match t.runState with
        | .idle => .idle
        | .running => .paused
        | .paused => .paused) ∧
    (((∃ v, i = .wShutdown k v) ∨ i = .tReset k) → t'.runState = .idle) ∧
    (i = .tick k → t.runState = .running ∧ t'.runState = .running) ∧
    ((∀ v, i ≠ .wStart k v) → (∀ v, i ≠ .wStop k v) → (∀ v, i ≠ .wShutdown k v) → i ≠ .tReset k →
      (∀ rec, i ≠ .tRestore k rec) → t'.runState = t.runState)

/-! ### Timer tasks -/

/-- R111, R112: a Start from Idle or Running latches the prescaler (at most 9) and the mask, masks the
counter, reloads the limit and runs; it changes nothing else. -/
def Obligations.StartLatchesAndReloads : Prop :=
  ∀ (s : State) (k : Nat) (v : Word) (t : Timer), s.timers[k]? = some t → t.pulsedStop = false →
    exec (.wStart k v) s = .next { s with
      timers := s.timers.set k { t with
        latchedPrescaler := BitVec.ofNat 4 (min t.prescaler.toNat 9)
        latchedMask := BitVec.ofNat 32 (2 ^ (s.params.widthOf t.bitModeCode).bits - 1)
        liveCounter := t.liveCounter &&& BitVec.ofNat 32 (2 ^ (s.params.widthOf t.bitModeCode).bits - 1)
        activeLimit := if t.mode = .counter then t.softwareLimit else 0#32
        running := true
        pulsedStop := false }
      response := .nothing }

/-- R111, R276: a Start from Paused resumes and latches and reloads nothing. -/
def Obligations.StartResumesWithoutLatch : Prop :=
  ∀ (s : State) (k : Nat) (v : Word) (t : Timer), s.timers[k]? = some t → t.pulsedStop = true →
    exec (.wStart k v) s = .next { s with
      timers := s.timers.set k { t with running := true, pulsedStop := false }
      response := .nothing }

/-- R113, R114: Stop pauses a running timer, the line kept, and changes no timer that is not running.
The selector is that of the default map. -/
def Obligations.StopPausesOrChangesNothing : Prop :=
  ∀ (s : State) (k : Nat) (v : Word) (t : Timer), s.timers[k]? = some t →
    (t.running = true → exec (.wStop k v) s = .next { s with
      timers := s.timers.set k { t with running := false, pulsedStop := true }
      response := .nothing }) ∧
    (t.running = false → exec (.wStop k v) s = .next { s with response := .nothing }) ∧
    (Instr.wStop k v).selector Params.default = some 0x1004#15

/-- R115: Clear zeroes the counter and reloads the limit, and keeps the run state and the line.
The selector is that of the default map. -/
def Obligations.ClearZeroesTheCounter : Prop :=
  ∀ (s : State) (k : Nat) (v : Word) (t : Timer), s.timers[k]? = some t →
    exec (.wClear k v) s = .next { s with
      timers := s.timers.set k { t with
        liveCounter := 0#32
        activeLimit := if t.mode = .counter then t.softwareLimit else 0#32 }
      response := .nothing } ∧
    (Instr.wClear k v).selector Params.default = some 0x100C#15

/-- R116: Shutdown halts, zeroes the counter, reloads the limit and forgets a pause; the line is kept.
The selector is that of the default map. -/
def Obligations.ShutdownGoesIdle : Prop :=
  ∀ (s : State) (k : Nat) (v : Word) (t : Timer), s.timers[k]? = some t →
    exec (.wShutdown k v) s = .next { s with
      timers := s.timers.set k { t with
        running := false
        pulsedStop := false
        liveCounter := 0#32
        activeLimit := if t.mode = .counter then t.softwareLimit else 0#32 }
      response := .nothing } ∧
    (Instr.wShutdown k v).selector Params.default = some 0x1010#15

/-- R117: a CAPTURE[i] write snapshots the counter into channel `i`, whatever value is written, and no
other channel changes.
The selector is that of the default map. -/
def Obligations.CaptureWriteSnapshots : Prop :=
  ∀ (s : State) (k : Nat) (i : Channel) (v : Word) (t : Timer), s.timers[k]? = some t →
    ∃ q : Quad Word,
      exec (.wCapture k i v) s = .next { s with
        timers := s.timers.set k { t with captureChannel := q }
        response := .nothing } ∧
      (∀ j, q.get j = if j = i then t.liveCounter else t.captureChannel.get j) ∧
      (Instr.wCapture k i v).selector Params.default = some (BitVec.ofNat 15 (0x1040 + 4 * i.val))

/-- R119: the task registers read 0, and change nothing.
The selectors are those of the default map. -/
def Obligations.TaskRegistersReadZero : Prop :=
  ∀ (s : State) (k : Nat) (i : Instr),
    i ∈ ([.rStart k, .rStop k, .rClear k, .rShutdown k] : List Instr) → k < s.timers.length →
    exec i s = .next { s with response := .word 0#32 } ∧
    (Instr.rStart k).selector Params.default = some 0x0000#15 ∧
    (Instr.rStop k).selector Params.default = some 0x0004#15 ∧
    (Instr.rClear k).selector Params.default = some 0x000C#15 ∧
    (Instr.rShutdown k).selector Params.default = some 0x0010#15

/-! ### Timer registers -/

/-- R118, R141, R143, R146, R148, R150: what the reads of CAPTURE[i], MODE, BITMODE, PRESCALER, LIMIT and CC[i]
return; none changes anything.
The selectors are those of the default map. -/
def Obligations.RegisterReads : Prop :=
  ∀ (s : State) (k : Nat) (ch : Channel) (t : Timer), s.timers[k]? = some t →
    exec (.rCapture k ch) s = .next { s with response := .word (t.captureChannel.get ch) } ∧
    exec (.rMode k) s = .next { s with response := .word (if t.mode = .counter then 1#32 else 0#32) } ∧
    exec (.rBitmode k) s = .next { s with response := .word (BitVec.ofNat 32 t.bitModeCode.toNat) } ∧
    exec (.rPrescaler k) s = .next { s with response := .word (BitVec.ofNat 32 t.prescaler.toNat) } ∧
    exec (.rLimit k) s = .next { s with response := .word t.softwareLimit } ∧
    exec (.rCc k ch) s = .next { s with response := .word (t.compareChannel.get ch) } ∧
    (Instr.rCapture k ch).selector Params.default = some (BitVec.ofNat 15 (0x0040 + 4 * ch.val)) ∧
    (Instr.rMode k).selector Params.default = some 0x0504#15 ∧
    (Instr.rBitmode k).selector Params.default = some 0x0508#15 ∧
    (Instr.rPrescaler k).selector Params.default = some 0x0510#15 ∧
    (Instr.rLimit k).selector Params.default = some 0x0008#15 ∧
    (Instr.rCc k ch).selector Params.default = some (BitVec.ofNat 15 (0x0540 + 4 * ch.val))

/-- R153: INTENSET and INTENCLR both read as the mask in the field at `INTEN_SHIFT`, every other bit 0.
The selectors are those of the default map. -/
def Obligations.InterruptEnableReads : Prop :=
  ∀ (s : State) (k : Nat) (t : Timer), s.timers[k]? = some t →
    ∃ w : Word,
      exec (.rIntenset k) s = .next { s with response := .word w } ∧
      exec (.rIntenclr k) s = .next { s with response := .word w } ∧
      w.toNat = t.interruptEnableMask.toNat * 2 ^ s.params.intenShift % 2 ^ 32 ∧
      (Instr.rIntenset k).selector Params.default = some 0x0304#15 ∧
      (Instr.rIntenclr k).selector Params.default = some 0x0308#15

/-- R140: a MODE write selects the mode by bit 0 and always reloads the limit.
The selector is that of the default map. -/
def Obligations.ModeWriteReloads : Prop :=
  ∀ (s : State) (k : Nat) (v : Word) (t : Timer), s.timers[k]? = some t →
    exec (.wMode k v) s = .next { s with
      timers := s.timers.set k { t with
        mode := if v.toNat % 2 = 1 then .counter else .timer
        activeLimit := if v.toNat % 2 = 1 then t.softwareLimit else 0#32 }
      response := .nothing } ∧
    (Instr.wMode k v).selector Params.default = some 0x1504#15

/-- R142, R145, R275: BITMODE and PRESCALER writes store their fields and touch nothing latched.
The selectors are those of the default map. -/
def Obligations.BitmodeAndPrescalerWrites : Prop :=
  ∀ (s : State) (k : Nat) (v : Word) (t : Timer), s.timers[k]? = some t →
    exec (.wBitmode k v) s = .next { s with
      timers := s.timers.set k { t with bitModeCode := BitVec.ofNat 2 (v.toNat % 4) }
      response := .nothing } ∧
    exec (.wPrescaler k v) s = .next { s with
      timers := s.timers.set k { t with prescaler := BitVec.ofNat 4 (v.toNat % 16) }
      response := .nothing } ∧
    (Instr.wBitmode k v).selector Params.default = some 0x1508#15 ∧
    (Instr.wPrescaler k v).selector Params.default = some 0x1510#15

/-- R147, R277: a LIMIT write in COUNTER mode stores the whole value and reloads; in TIMER mode it is lost.
The selector is that of the default map. -/
def Obligations.LimitWrite : Prop :=
  ∀ (s : State) (k : Nat) (v : Word) (t : Timer), s.timers[k]? = some t →
    (t.mode = .counter → exec (.wLimit k v) s = .next { s with
      timers := s.timers.set k { t with softwareLimit := v, activeLimit := v }
      response := .nothing }) ∧
    (t.mode = .timer → exec (.wLimit k v) s = .next { s with response := .nothing }) ∧
    (Instr.wLimit k v).selector Params.default = some 0x1008#15

/-- R149, R280: a CC[i] write stores the whole target in channel `i`; the line and every other channel
are as before.
The selector is that of the default map. -/
def Obligations.CompareWrite : Prop :=
  ∀ (s : State) (k : Nat) (i : Channel) (v : Word) (t : Timer), s.timers[k]? = some t →
    ∃ q : Quad Word,
      exec (.wCc k i v) s = .next { s with
        timers := s.timers.set k { t with compareChannel := q }
        response := .nothing } ∧
      (∀ j, q.get j = if j = i then v else t.compareChannel.get j) ∧
      (Instr.wCc k i v).selector Params.default = some (BitVec.ofNat 15 (0x1540 + 4 * i.val))

/-- R151, R152: INTENSET sets, and INTENCLR clears, the enable bits named in the field at `INTEN_SHIFT`;
every other bit of the written value is ignored and the line keeps its level.
The selectors are those of the default map. -/
def Obligations.InterruptEnableWrites : Prop :=
  ∀ (s : State) (k : Nat) (v : Word) (t : Timer), s.timers[k]? = some t →
    ∃ m m' : BitVec 4,
      exec (.wIntenset k v) s = .next { s with
        timers := s.timers.set k { t with interruptEnableMask := m }
        response := .nothing } ∧
      exec (.wIntenclr k v) s = .next { s with
        timers := s.timers.set k { t with interruptEnableMask := m' }
        response := .nothing } ∧
      (∀ j, j < 4 →
        m.getLsbD j = (t.interruptEnableMask.getLsbD j || v.getLsbD (s.params.intenShift + j)) ∧
        m'.getLsbD j = (t.interruptEnableMask.getLsbD j && !v.getLsbD (s.params.intenShift + j))) ∧
      (Instr.wIntenset k v).selector Params.default = some 0x1304#15 ∧
      (Instr.wIntenclr k v).selector Params.default = some 0x1308#15

/-! ### The tick engine -/

/-- R171, R172: a COUNTER-mode tick; the enable mask and the channels are neither read nor written. -/
def Obligations.TickInCounterMode : Prop :=
  ∀ (s : State) (k : Nat) (t : Timer), s.timers[k]? = some t → t.running = true → t.mode = .counter →
    exec (.tick k) s = .next { s with
      timers := s.timers.set k
        (if (t.liveCounter + 1#32) &&& t.latchedMask = t.softwareLimit
         then { t with liveCounter := 0#32, interruptLine := true }
         else { t with liveCounter := (t.liveCounter + 1#32) &&& t.latchedMask, interruptLine := false })
      response := .nothing }

/-- R171, R173, R174, R175, R178: a TIMER-mode tick. The highest enabled channel sets the line, no enabled
channel leaves it; every enabled channel that matches counts one event. -/
def Obligations.TickInTimerMode : Prop :=
  ∀ (s : State) (k : Nat) (t : Timer), s.timers[k]? = some t → t.running = true → t.mode = .timer →
    ∃ ev : Quad Word,
      exec (.tick k) s = .next { s with
        timers := s.timers.set k { t with
          liveCounter := (t.liveCounter + 1#32) &&& t.latchedMask
          interruptLine := match t.highestEnabled with
            | none => t.interruptLine
            | some h => decide (t.compareChannel.get h = (t.liveCounter + 1#32) &&& t.latchedMask)
          compareEvents := ev }
        response := .nothing } ∧
      ∀ j : Channel, ev.get j =
        if t.interruptEnableMask.getLsbD j.val = true ∧
            t.compareChannel.get j = (t.liveCounter + 1#32) &&& t.latchedMask
        then t.compareEvents.get j + 1#32 else t.compareEvents.get j

/-- R171, R173: in TIMER mode `n` ticks advance the counter by `n` modulo the latched mask plus 1. -/
def Obligations.TicksWrapAtTheLatchedMask : Prop :=
  ∀ (n : Nat) (s : State) (k : Nat) (t : Timer), s.timers[k]? = some t → t.Inv →
    t.running = true → t.mode = .timer →
    ∃ s' t', execAll (List.replicate n (.tick k)) s = .next s' ∧ s'.timers[k]? = some t' ∧
      t'.liveCounter.toNat = (t.liveCounter.toNat + n) % (t.latchedMask.toNat + 1)

/-- R176 (a), R177: in COUNTER mode, with a limit of at least 1 within the latched mask and the counter below
it, `n` ticks advance the counter by `n` modulo the limit, and the line is high exactly after the ticks that
wrapped it to 0. -/
def Obligations.CounterModeDividesByTheLimit : Prop :=
  ∀ (n : Nat) (s : State) (k : Nat) (t : Timer), s.timers[k]? = some t → t.Inv →
    t.running = true → t.mode = .counter →
    t.liveCounter < t.softwareLimit → t.softwareLimit ≤ t.latchedMask →
    ∃ s' t', execAll (List.replicate n (.tick k)) s = .next s' ∧ s'.timers[k]? = some t' ∧
      t'.liveCounter.toNat = (t.liveCounter.toNat + n) % t.softwareLimit.toNat ∧
      (n ≠ 0 → t'.interruptLine = decide ((t.liveCounter.toNat + n) % t.softwareLimit.toNat = 0))

/-- R176 (c): in COUNTER mode a limit above the latched mask is never met: the counter wraps at the mask
and every tick leaves the line low. -/
def Obligations.CounterModeLimitAboveMask : Prop :=
  ∀ (n : Nat) (s : State) (k : Nat) (t : Timer), s.timers[k]? = some t → t.Inv →
    t.running = true → t.mode = .counter → t.latchedMask < t.softwareLimit →
    ∃ s' t', execAll (List.replicate n (.tick k)) s = .next s' ∧ s'.timers[k]? = some t' ∧
      t'.liveCounter.toNat = (t.liveCounter.toNat + n) % (t.latchedMask.toNat + 1) ∧
      (n ≠ 0 → t'.interruptLine = false)

/-! ### The LED decoder -/

/-- R193, R195, R197: a drive word with a valid row select sets, of the row's connected cells, exactly the bits
whose column is enabled (active low), keeps every other bit, and marks both redraws. -/
def Obligations.DriveWriteScansOneRow : Prop :=
  ∀ (s : State) (v : Word) (r : Fin 3), v.toNat / 2 ^ 13 % 8 = 2 ^ r.val →
    ∃ m : BitVec 25,
      exec (.wDrive v) s = .next { s with
        led := { s.led with litMask := m, redrawFront := true, redrawBack := true }
        response := .nothing } ∧
      ∀ x y : Fin 5, m.getLsbD (x.val + 5 * y.val) = true ↔
        (∃ c, c < 9 ∧ s.params.ledCell r c = some (x, y) ∧ v.getLsbD (4 + c) = false) ∨
        ((∀ c, c < 9 → s.params.ledCell r c ≠ some (x, y)) ∧
          s.led.litMask.getLsbD (x.val + 5 * y.val) = true)

/-- R191, R192, R244: a drive word whose row select is not one-hot changes nothing and records nothing. -/
def Obligations.InvalidScanIsIgnored : Prop :=
  ∀ (s : State) (v : Word), v.toNat / 2 ^ 13 % 8 ∉ [1, 2, 4] →
    exec (.wDrive v) s = .next { s with response := .nothing }

/-- R196: bits 3:0 and 31:16 of a drive word have no effect. -/
def Obligations.DriveIgnoresOtherBits : Prop :=
  ∀ (s : State) (v w : Word), v.extractLsb' 4 12 = w.extractLsb' 4 12 →
    exec (.wDrive v) s = exec (.wDrive w) s

/-- R198: a drive-word read returns the lit mask, not the last word written, and marks both redraws.
The selector is that of the default map. -/
def Obligations.DriveReadMarksRedraw : Prop :=
  ∀ s : State, ∃ w : Word,
    exec .rDrive s = .next { s with
      led := { s.led with redrawFront := true, redrawBack := true }
      response := .word w } ∧
    w.toNat = s.led.litMask.toNat ∧
    Instr.rDrive.selector Params.default = some 0x2000#15

/-- R195: under a map with R194's properties the three clear masks are disjoint and cover the 25 bits. -/
def Obligations.RowClearMasksPartition : Prop :=
  ∀ p : Params, p.ledMapOk = true →
    p.rowClear 0 &&& p.rowClear 1 = 0#25 ∧ p.rowClear 0 &&& p.rowClear 2 = 0#25 ∧
    p.rowClear 1 &&& p.rowClear 2 = 0#25 ∧
    p.rowClear 0 ||| p.rowClear 1 ||| p.rowClear 2 = BitVec.allOnes 25

/-- R201: after at least one valid write to every row, the lit mask is the union of the rows' most recent
decodes, whatever was written between and whatever was lit before. -/
def Obligations.FullFrameIsUnionOfRows : Prop :=
  ∀ (s : State) (ws : List Word) (v : Fin 3 → Word), s.params.ledMapOk = true →
    (∀ r, lastValid r ws = some (v r)) →
    ∃ s', execAll (ws.map Instr.wDrive) s = .next s' ∧
      s'.led.litMask =
        ledBits s.params 0 (v 0) ||| ledBits s.params 1 (v 1) ||| ledBits s.params 2 (v 2)

/-! ### Host events -/

/-- R47, R221: a timer reset gives every field but `diag` its value of R47.
The selector is that of R82. -/
def Obligations.TimerResetValues : Prop :=
  ∀ (s : State) (k : Nat) (t : Timer), s.timers[k]? = some t →
    exec (.tReset k) s = .next { s with
      timers := s.timers.set k
        { mode := .timer, bitModeCode := 0#2, prescaler := s.params.prescalerReset,
          running := false, pulsedStop := false, liveCounter := 0#32, softwareLimit := 0#32,
          captureChannel := { at0 := 0#32, at1 := 0#32, at2 := 0#32, at3 := 0#32 },
          compareChannel := { at0 := 0#32, at1 := 0#32, at2 := 0#32, at3 := 0#32 },
          interruptEnableMask := 0#4, interruptLine := false,
          compareEvents := { at0 := 0#32, at1 := 0#32, at2 := 0#32, at3 := 0#32 },
          latchedMask := BitVec.ofNat 32 (2 ^ (s.params.widthOf 0#2).bits - 1),
          latchedPrescaler := BitVec.ofNat 4 (min s.params.prescalerReset.toNat 9),
          activeLimit := 0#32, diag := t.diag }
      response := .nothing } ∧
    (Instr.tReset k).selector Params.default = some 0x4001#15

/-- R222: an LED reset unlights every LED, marks both redraws and keeps `diag`.
The selector is that of R82. -/
def Obligations.LedResetValues : Prop :=
  ∀ s : State, exec .lReset s = .next { s with
    led := { litMask := 0#25, redrawFront := true, redrawBack := true, diag := s.led.diag }
    response := .nothing } ∧
    (Instr.lReset).selector Params.default = some 0x6001#15

/-- R223: a SAVE returns the device's record and changes nothing.
The selectors are those of R82. -/
def Obligations.SaveReturnsTheRecord : Prop :=
  ∀ (s : State) (k : Nat) (t : Timer), s.timers[k]? = some t →
    exec (.tSave k) s = .next { s with
      response := .timerRecord {
        mode := t.mode, bitModeCode := t.bitModeCode.toNat, prescaler := t.prescaler.toNat,
        running := t.running, pulsedStop := t.pulsedStop, liveCounter := t.liveCounter,
        softwareLimit := t.softwareLimit, captureChannel := t.captureChannel,
        compareChannel := t.compareChannel, interruptEnableMask := t.interruptEnableMask.toNat,
        interruptLine := t.interruptLine, compareEvents := t.compareEvents,
        latchedMask := t.latchedMask, latchedPrescaler := t.latchedPrescaler.toNat,
        activeLimit := t.activeLimit } } ∧
    exec .lSave s = .next { s with
      response := .ledRecord {
        litMask := BitVec.ofNat 32 s.led.litMask.toNat, redrawFront := s.led.redrawFront,
        redrawBack := s.led.redrawBack } } ∧
    (Instr.tSave k).selector Params.default = some 0x4002#15 ∧
    (Instr.lSave).selector Params.default = some 0x6002#15

/-- R224: a timer RESTORE copies a well-formed record, `diag` kept, and refuses any other; well-formedness
is R224's own list.
The selector is that of R82. -/
def Obligations.TimerRestore : Prop :=
  ∀ (s : State) (k : Nat) (rec : TimerRecord) (t : Timer), s.timers[k]? = some t →
    let ok : Prop := (
      ¬(rec.running = true ∧ rec.pulsedStop = true) ∧
      rec.latchedMask ∈ ([0xFF#32, 0xFFFF#32, 0xFFFFFF#32, 0xFFFFFFFF#32] : List Word) ∧
      rec.liveCounter ≤ rec.latchedMask ∧ rec.latchedPrescaler ≤ 9 ∧ rec.prescaler ≤ 15 ∧
      rec.bitModeCode ≤ 3 ∧ rec.interruptEnableMask ≤ 15 ∧
      rec.activeLimit = if rec.mode = .counter then rec.softwareLimit else 0#32)
    (ok → ∃ t' : Timer, exec (.tRestore k rec) s = .next { s with
        timers := s.timers.set k t', response := .nothing } ∧
      t'.diag = t.diag ∧ t'.record = rec) ∧
    (¬ok → exec (.tRestore k rec) s = .refused .badRecord) ∧
    (Instr.tRestore k rec).selector Params.default = some 0x4003#15

/-- R225: an LED RESTORE takes the record's lit mask and marks both redraws whatever the record holds; a
mask above 25 bits is refused.
The selector is that of R82. -/
def Obligations.LedRestore : Prop :=
  ∀ (s : State) (rec : LedRecord),
    (rec.litMask.toNat ≤ 0x1FFFFFF → exec (.lRestore rec) s = .next { s with
      led := { s.led with
        litMask := BitVec.ofNat 25 rec.litMask.toNat, redrawFront := true, redrawBack := true }
      response := .nothing }) ∧
    (0x1FFFFFF < rec.litMask.toNat → exec (.lRestore rec) s = .refused .badRecord) ∧
    (Instr.lRestore rec).selector Params.default = some 0x6003#15

/-- R224, R225, R227: a SAVE followed by a RESTORE of that record into another machine gives the saved
device back, but for `diag` and the redraw flags. -/
def Obligations.SaveRestoreRoundTrip : Prop :=
  ∀ (a b : State) (k : Nat) (t u : Timer), a.Inv → a.timers[k]? = some t → b.timers[k]? = some u →
    (∃ rec, exec (.tSave k) a = .next { a with response := .timerRecord rec } ∧
      exec (.tRestore k rec) b = .next { b with
        timers := b.timers.set k { t with diag := u.diag }, response := .nothing }) ∧
    (∃ rec, exec .lSave a = .next { a with response := .ledRecord rec } ∧
      exec (.lRestore rec) b = .next { b with
        led := { litMask := a.led.litMask, redrawFront := true, redrawBack := true,
                 diag := b.led.diag },
        response := .nothing })

/-- R226: the sink's acknowledgement clears the named redraw flags and nothing else.
The selector is that of R82. -/
def Obligations.SinkAckClearsNamedFlags : Prop :=
  ∀ (s : State) (front back : Bool),
    exec (.sinkAck front back) s = .next { s with
      led := { s.led with
        redrawFront := if front then false else s.led.redrawFront
        redrawBack := if back then false else s.led.redrawBack }
      response := .nothing } ∧
    (Instr.sinkAck front back).selector Params.default = some 0x6004#15

/-- R42, R43: the writers of the lit mask and the redraw flags: what leaves no redraw pending is an
acknowledgement, and only drive writes, resets and restores change the lit mask. -/
def Obligations.LedFieldsWriters : Prop :=
  ∀ (s s' : State) (i : Instr), exec i s = .next s' →
    (s'.led.litMask ≠ s.led.litMask →
      (∃ v, i = .wDrive v) ∨ i = .lReset ∨ ∃ rec, i = .lRestore rec) ∧
    (s.led.redrawFront = true → s'.led.redrawFront = false → ∃ b, i = .sinkAck true b) ∧
    (s.led.redrawBack = true → s'.led.redrawBack = false → ∃ f, i = .sinkAck f true)

/-! ### Unmapped offsets -/

/-- R241, R242: an access to a timer offset that is neither a register's nor unimplemented is logged; a read
returns 0, a write is ignored, and nothing else changes. -/
def Obligations.TimerBadOffset : Prop :=
  ∀ (s : State) (k : Nat) (off v : Word) (w : BitVec 8) (t : Timer), s.timers[k]? = some t →
    s.params.isUnimplemented off = false →
    exec (.tRBadoffset k off w) s = .next { s with
      timers := s.timers.set k { t with diag := t.diag ++ [.badOffsetRead (.timer k) off w] }
      response := .word 0#32 } ∧
    exec (.tWBadoffset k off v w) s = .next { s with
      timers := s.timers.set k { t with diag := t.diag ++ [.badOffsetWrite (.timer k) off v w] }
      response := .nothing }

/-- R243: an access to an offset of `UNIMPL_OFFSETS` is logged as unimplemented; a read returns 0, a write is
ignored, and nothing else changes. By default there is no such offset. The offset is aligned and in the window
(R84). That the two fallback operations of a timer carry the access is the model's inference, log entry 12. -/
def Obligations.TimerUnimplementedOffset : Prop :=
  ∀ (s : State) (k : Nat) (off v : Word) (w : BitVec 8) (t : Timer), s.timers[k]? = some t →
    off ∈ s.params.unimplOffsets → off.toNat < s.params.windowSize → off.toNat % 4 = 0 →
    exec (.tRBadoffset k off w) s = .next { s with
      timers := s.timers.set k { t with diag := t.diag ++ [.unimplementedRead (.timer k) off] }
      response := .word 0#32 } ∧
    exec (.tWBadoffset k off v w) s = .next { s with
      timers := s.timers.set k { t with diag := t.diag ++ [.unimplementedWrite (.timer k) off v] }
      response := .nothing } ∧
    Params.default.unimplOffsets = []

/-- R199, R242: an access to an LED offset other than the drive word is logged; a read returns 0 and does not
set the redraw flags, a write is ignored. -/
def Obligations.LedBadOffset : Prop :=
  ∀ (s : State) (off v : Word) (w : BitVec 8),
    exec (.lRBadoffset off w) s = .next { s with
      led := { s.led with diag := s.led.diag ++ [.badOffsetRead .led off w] }
      response := .word 0#32 } ∧
    exec (.lWBadoffset off v w) s = .next { s with
      led := { s.led with diag := s.led.diag ++ [.badOffsetWrite .led off v w] }
      response := .nothing }
end

