-- ==== Sys2Proof/Laws/Bits.lean ====
section
/-!
SUPPORT. Small laws of the four-channel arrays, the counter masks, the prescaler clamp and the LED
cells.
-/

namespace Sys2Proof

/-! ### Four-channel arrays -/

@[simp] theorem Quad.get_set {α : Type} (q : Quad α) (i j : Channel) (a : α) :
    (q.set i a).get j = if j = i then a else q.get j := by
  match i, j with
  | 0, 0 | 0, 1 | 0, 2 | 0, 3 | 1, 0 | 1, 1 | 1, 2 | 1, 3
  | 2, 0 | 2, 1 | 2, 2 | 2, 3 | 3, 0 | 3, 1 | 3, 2 | 3, 3 => rfl

@[simp] theorem Quad.get_all {α : Type} (a : α) (i : Channel) : (Quad.all a).get i = a := by
  match i with
  | 0 | 1 | 2 | 3 => rfl

theorem Quad.ext_get {α : Type} {q r : Quad α} (h : ∀ i, q.get i = r.get i) : q = r := by
  cases q
  cases r
  have h0 := h 0
  have h1 := h 1
  have h2 := h 2
  have h3 := h 3
  simp_all [Quad.get]

/-! ### Counter masks -/

theorem CounterWidth.mask_eq_ofNat (w : CounterWidth) : w.mask = BitVec.ofNat 32 (2 ^ w.bits - 1) := by
  cases w <;> rfl

theorem CounterWidth.mask_mem (w : CounterWidth) : w.mask ∈ counterMasks := by
  cases w <;> simp [counterMasks]

@[simp] theorem Params.maskOf_mem (p : Params) (code : BitVec 2) : p.maskOf code ∈ counterMasks :=
  CounterWidth.mask_mem _

/-- A latched mask is all ones below a power of two. -/
theorem mask_toNat_of_mem {m : Word} (h : m ∈ counterMasks) :
    ∃ n, n ≤ 32 ∧ 8 ≤ n ∧ m.toNat = 2 ^ n - 1 := by
  simp only [counterMasks, List.mem_cons, List.not_mem_nil, or_false] at h
  rcases h with rfl | rfl | rfl | rfl
  · exact ⟨8, by decide, by decide, rfl⟩
  · exact ⟨16, by decide, by decide, rfl⟩
  · exact ⟨24, by decide, by decide, rfl⟩
  · exact ⟨32, by decide, by decide, rfl⟩

/-- ANDing a latched mask is taking the remainder by the mask plus 1. -/
theorem and_mask_toNat {m : Word} (h : m ∈ counterMasks) (x : Word) :
    (x &&& m).toNat = x.toNat % (m.toNat + 1) := by
  obtain ⟨n, _, _, hm⟩ := mask_toNat_of_mem h
  have h1 : m.toNat + 1 = 2 ^ n := by
    have := Nat.one_le_two_pow (n := n)
    omega
  rw [BitVec.toNat_and, h1, hm, Nat.and_two_pow_sub_one_eq_mod]

theorem and_le_mask (x m : Word) : x &&& m ≤ m := by
  rw [BitVec.le_def, BitVec.toNat_and]
  exact Nat.and_le_right

/-- Step 1 of a tick counts modulo the latched mask plus 1. -/
theorem succ_and_mask_toNat {m : Word} (h : m ∈ counterMasks) (x : Word) :
    ((x + 1#32) &&& m).toNat = (x.toNat + 1) % (m.toNat + 1) := by
  obtain ⟨n, hn, _, hm⟩ := mask_toNat_of_mem h
  have h1 : m.toNat + 1 = 2 ^ n := by
    have := Nat.one_le_two_pow (n := n)
    omega
  rw [and_mask_toNat h, h1, BitVec.toNat_add]
  exact Nat.mod_mod_of_dvd _ (Nat.pow_dvd_pow 2 hn)

/-! ### The prescaler clamp -/

theorem effectivePrescaler_le (p : BitVec 4) : effectivePrescaler p ≤ 9#4 := by
  revert p
  decide

theorem effectivePrescaler_eq (p : BitVec 4) :
    effectivePrescaler p = BitVec.ofNat 4 (min p.toNat 9) := by
  revert p
  decide

/-! ### LED cells -/

theorem LedCell.bit_getLsbD (x y : Fin 5) (n : Nat) :
    (LedCell.bit (some (x, y))).getLsbD n = decide (n = x.val + 5 * y.val) := by
  have hx := x.isLt
  have hy := y.isLt
  simp only [LedCell.bit, BitVec.getLsbD_shiftLeft, BitVec.getLsbD_one]
  by_cases h : n = x.val + 5 * y.val
  · subst h
    simp
    omega
  · simp only [h, decide_false]
    by_cases h2 : n < x.val + 5 * y.val
    · simp [h2]
    · have h3 : n - (x.val + 5 * y.val) ≠ 0 := by omega
      simp [h3]

@[simp] theorem LedCell.bit_none (n : Nat) : (LedCell.bit none).getLsbD n = false := by
  simp [LedCell.bit]

/-- Two positions with the same bit are the same position (R42). -/
theorem ledPosition_unique {x y x' y' : Fin 5} (h : x.val + 5 * y.val = x'.val + 5 * y'.val) :
    x = x' ∧ y = y' := by
  have := x.isLt
  have := x'.isLt
  exact ⟨Fin.ext (by omega), Fin.ext (by omega)⟩

/-- A cell has the bit of a position exactly where it is that position (R194). -/
theorem LedCell.bit_getLsbD_position (cell : LedCell) (x y : Fin 5) :
    (LedCell.bit cell).getLsbD (x.val + 5 * y.val) = decide (cell = some (x, y)) := by
  cases cell with
  | none => simp
  | some c =>
    obtain ⟨a, b⟩ := c
    rw [LedCell.bit_getLsbD]
    by_cases h : x.val + 5 * y.val = a.val + 5 * b.val
    · obtain ⟨rfl, rfl⟩ := ledPosition_unique h
      simp
    · have hne : ¬(a = x ∧ b = y) := by
        rintro ⟨rfl, rfl⟩
        exact h rfl
      simp [h, hne]

/-- Every bit below 25 is the bit of a position (R42). -/
theorem ledPosition_exists {n : Nat} (h : n < 25) : ∃ x y : Fin 5, n = x.val + 5 * y.val :=
  ⟨⟨n % 5, by omega⟩, ⟨n / 5, by omega⟩, by simp only; omega⟩

/-! ### Offsets -/

theorem Params.addressable_iff (p : Params) (off : Word) :
    p.addressable off = true ↔ off.toNat < p.windowSize ∧ off.toNat % 4 = 0 := by
  have h : off.extractLsb' 0 2 = 0#2 ↔ off.toNat % 4 = 0 := by
    rw [← BitVec.toNat_inj]
    simp
  simp [Params.addressable, h]

theorem Params.registerAt_offset (p : Params) {off : Word} {r : TimerReg}
    (h : p.registerAt off = some r) : p.offsetOf r = off := by
  have := List.find?_some h
  simpa using this

theorem Params.timerReg_offset (p : Params) {off : Word} {r : TimerReg}
    (h : p.timerReg off = some r) : p.offsetOf r = off := by
  unfold Params.timerReg at h
  split at h
  · exact p.registerAt_offset h
  · cases h

theorem TimerReg.mem_list (r : TimerReg) : r ∈ TimerReg.list := by
  cases r with
  | capture i => match i with | 0 | 1 | 2 | 3 => simp [TimerReg.list]
  | cc i => match i with | 0 | 1 | 2 | 3 => simp [TimerReg.list]
  | _ => simp [TimerReg.list]

/-- Under a well-formed map every register is found at its own offset (R83). -/
theorem Params.timerReg_offsetOf {p : Params} (h : p.wf = true) (r : TimerReg) :
    p.timerReg (p.offsetOf r) = some r := by
  simp only [Params.wf, Params.regMapOk, Bool.and_eq_true, List.all_eq_true] at h
  have := h.1.1.1.1 r r.mem_list
  simpa using this

theorem Params.isDrive_driveOffset {p : Params} (h : p.wf = true) :
    p.isDrive p.ledDriveOffset = true := by
  simp only [Params.wf, Params.regMapOk, Bool.and_eq_true] at h
  exact h.1.1.1.2

end Sys2Proof
end

