-- ==== Sys2Proof/Laws/State.lean ====
section
/-!
SUPPORT. One lemma per field per update of the state, a timer and the LED decoder: a field an update
writes reads as written, every other field reads as before.
-/

namespace Sys2Proof.Machine

/-! ### Updates of the state -/

@[simp] theorem State.putTimer_params (s : State) (k : Nat) (t : Timer) : (s.putTimer k t).params = s.params := rfl
@[simp] theorem State.putTimer_timers (s : State) (k : Nat) (t : Timer) : (s.putTimer k t).timers = s.timers.set k t := rfl
@[simp] theorem State.putTimer_led (s : State) (k : Nat) (t : Timer) : (s.putTimer k t).led = s.led := rfl
@[simp] theorem State.putTimer_stream (s : State) (k : Nat) (t : Timer) : (s.putTimer k t).stream = s.stream := rfl
@[simp] theorem State.putTimer_pos (s : State) (k : Nat) (t : Timer) : (s.putTimer k t).pos = s.pos := rfl
@[simp] theorem State.putTimer_response (s : State) (k : Nat) (t : Timer) : (s.putTimer k t).response = s.response := rfl

@[simp] theorem State.putLed_params (s : State) (l : Led) : (s.putLed l).params = s.params := rfl
@[simp] theorem State.putLed_timers (s : State) (l : Led) : (s.putLed l).timers = s.timers := rfl
@[simp] theorem State.putLed_led (s : State) (l : Led) : (s.putLed l).led = l := rfl
@[simp] theorem State.putLed_stream (s : State) (l : Led) : (s.putLed l).stream = s.stream := rfl
@[simp] theorem State.putLed_pos (s : State) (l : Led) : (s.putLed l).pos = s.pos := rfl
@[simp] theorem State.putLed_response (s : State) (l : Led) : (s.putLed l).response = s.response := rfl

@[simp] theorem State.respond_params (s : State) (r : Response) : (s.respond r).params = s.params := rfl
@[simp] theorem State.respond_timers (s : State) (r : Response) : (s.respond r).timers = s.timers := rfl
@[simp] theorem State.respond_led (s : State) (r : Response) : (s.respond r).led = s.led := rfl
@[simp] theorem State.respond_stream (s : State) (r : Response) : (s.respond r).stream = s.stream := rfl
@[simp] theorem State.respond_pos (s : State) (r : Response) : (s.respond r).pos = s.pos := rfl
@[simp] theorem State.respond_response (s : State) (r : Response) : (s.respond r).response = r := rfl

@[simp] theorem State.advance_params (s : State) : (s.advance).params = s.params := rfl
@[simp] theorem State.advance_timers (s : State) : (s.advance).timers = s.timers := rfl
@[simp] theorem State.advance_led (s : State) : (s.advance).led = s.led := rfl
@[simp] theorem State.advance_stream (s : State) : (s.advance).stream = s.stream := rfl
@[simp] theorem State.advance_pos (s : State) : (s.advance).pos = s.pos + 1 := rfl
@[simp] theorem State.advance_response (s : State) : (s.advance).response = s.response := rfl

@[simp] theorem State.forgetDiag_params (s : State) : (s.forgetDiag).params = s.params := rfl
@[simp] theorem State.forgetDiag_timers (s : State) : (s.forgetDiag).timers = s.timers.map Timer.forgetDiag := rfl
@[simp] theorem State.forgetDiag_led (s : State) : (s.forgetDiag).led = s.led.forgetDiag := rfl
@[simp] theorem State.forgetDiag_stream (s : State) : (s.forgetDiag).stream = s.stream := rfl
@[simp] theorem State.forgetDiag_pos (s : State) : (s.forgetDiag).pos = s.pos := rfl
@[simp] theorem State.forgetDiag_response (s : State) : (s.forgetDiag).response = s.response := rfl

/-! ### Updates of a timer -/

@[simp] theorem Timer.reload_mode (t : Timer) : (t.reload).mode = t.mode := rfl
@[simp] theorem Timer.reload_bitModeCode (t : Timer) : (t.reload).bitModeCode = t.bitModeCode := rfl
@[simp] theorem Timer.reload_prescaler (t : Timer) : (t.reload).prescaler = t.prescaler := rfl
@[simp] theorem Timer.reload_running (t : Timer) : (t.reload).running = t.running := rfl
@[simp] theorem Timer.reload_pulsedStop (t : Timer) : (t.reload).pulsedStop = t.pulsedStop := rfl
@[simp] theorem Timer.reload_liveCounter (t : Timer) : (t.reload).liveCounter = t.liveCounter := rfl
@[simp] theorem Timer.reload_softwareLimit (t : Timer) : (t.reload).softwareLimit = t.softwareLimit := rfl
@[simp] theorem Timer.reload_captureChannel (t : Timer) : (t.reload).captureChannel = t.captureChannel := rfl
@[simp] theorem Timer.reload_compareChannel (t : Timer) : (t.reload).compareChannel = t.compareChannel := rfl
@[simp] theorem Timer.reload_interruptEnableMask (t : Timer) : (t.reload).interruptEnableMask = t.interruptEnableMask := rfl
@[simp] theorem Timer.reload_interruptLine (t : Timer) : (t.reload).interruptLine = t.interruptLine := rfl
@[simp] theorem Timer.reload_compareEvents (t : Timer) : (t.reload).compareEvents = t.compareEvents := rfl
@[simp] theorem Timer.reload_latchedMask (t : Timer) : (t.reload).latchedMask = t.latchedMask := rfl
@[simp] theorem Timer.reload_latchedPrescaler (t : Timer) : (t.reload).latchedPrescaler = t.latchedPrescaler := rfl
@[simp] theorem Timer.reload_activeLimit (t : Timer) : (t.reload).activeLimit = t.reloadValue := rfl
@[simp] theorem Timer.reload_diag (t : Timer) : (t.reload).diag = t.diag := rfl

@[simp] theorem Timer.latch_mode (p : Params) (t : Timer) : (t.latch p).mode = t.mode := rfl
@[simp] theorem Timer.latch_bitModeCode (p : Params) (t : Timer) : (t.latch p).bitModeCode = t.bitModeCode := rfl
@[simp] theorem Timer.latch_prescaler (p : Params) (t : Timer) : (t.latch p).prescaler = t.prescaler := rfl
@[simp] theorem Timer.latch_running (p : Params) (t : Timer) : (t.latch p).running = t.running := rfl
@[simp] theorem Timer.latch_pulsedStop (p : Params) (t : Timer) : (t.latch p).pulsedStop = t.pulsedStop := rfl
@[simp] theorem Timer.latch_liveCounter (p : Params) (t : Timer) : (t.latch p).liveCounter = t.liveCounter &&& p.maskOf t.bitModeCode := rfl
@[simp] theorem Timer.latch_softwareLimit (p : Params) (t : Timer) : (t.latch p).softwareLimit = t.softwareLimit := rfl
@[simp] theorem Timer.latch_captureChannel (p : Params) (t : Timer) : (t.latch p).captureChannel = t.captureChannel := rfl
@[simp] theorem Timer.latch_compareChannel (p : Params) (t : Timer) : (t.latch p).compareChannel = t.compareChannel := rfl
@[simp] theorem Timer.latch_interruptEnableMask (p : Params) (t : Timer) : (t.latch p).interruptEnableMask = t.interruptEnableMask := rfl
@[simp] theorem Timer.latch_interruptLine (p : Params) (t : Timer) : (t.latch p).interruptLine = t.interruptLine := rfl
@[simp] theorem Timer.latch_compareEvents (p : Params) (t : Timer) : (t.latch p).compareEvents = t.compareEvents := rfl
@[simp] theorem Timer.latch_latchedMask (p : Params) (t : Timer) : (t.latch p).latchedMask = p.maskOf t.bitModeCode := rfl
@[simp] theorem Timer.latch_latchedPrescaler (p : Params) (t : Timer) : (t.latch p).latchedPrescaler = effectivePrescaler t.prescaler := rfl
@[simp] theorem Timer.latch_activeLimit (p : Params) (t : Timer) : (t.latch p).activeLimit = t.activeLimit := rfl
@[simp] theorem Timer.latch_diag (p : Params) (t : Timer) : (t.latch p).diag = t.diag := rfl

@[simp] theorem Timer.raiseLine_mode (t : Timer) : (t.raiseLine).mode = t.mode := rfl
@[simp] theorem Timer.raiseLine_bitModeCode (t : Timer) : (t.raiseLine).bitModeCode = t.bitModeCode := rfl
@[simp] theorem Timer.raiseLine_prescaler (t : Timer) : (t.raiseLine).prescaler = t.prescaler := rfl
@[simp] theorem Timer.raiseLine_running (t : Timer) : (t.raiseLine).running = t.running := rfl
@[simp] theorem Timer.raiseLine_pulsedStop (t : Timer) : (t.raiseLine).pulsedStop = t.pulsedStop := rfl
@[simp] theorem Timer.raiseLine_liveCounter (t : Timer) : (t.raiseLine).liveCounter = t.liveCounter := rfl
@[simp] theorem Timer.raiseLine_softwareLimit (t : Timer) : (t.raiseLine).softwareLimit = t.softwareLimit := rfl
@[simp] theorem Timer.raiseLine_captureChannel (t : Timer) : (t.raiseLine).captureChannel = t.captureChannel := rfl
@[simp] theorem Timer.raiseLine_compareChannel (t : Timer) : (t.raiseLine).compareChannel = t.compareChannel := rfl
@[simp] theorem Timer.raiseLine_interruptEnableMask (t : Timer) : (t.raiseLine).interruptEnableMask = t.interruptEnableMask := rfl
@[simp] theorem Timer.raiseLine_interruptLine (t : Timer) : (t.raiseLine).interruptLine = true := rfl
@[simp] theorem Timer.raiseLine_compareEvents (t : Timer) : (t.raiseLine).compareEvents = t.compareEvents := rfl
@[simp] theorem Timer.raiseLine_latchedMask (t : Timer) : (t.raiseLine).latchedMask = t.latchedMask := rfl
@[simp] theorem Timer.raiseLine_latchedPrescaler (t : Timer) : (t.raiseLine).latchedPrescaler = t.latchedPrescaler := rfl
@[simp] theorem Timer.raiseLine_activeLimit (t : Timer) : (t.raiseLine).activeLimit = t.activeLimit := rfl
@[simp] theorem Timer.raiseLine_diag (t : Timer) : (t.raiseLine).diag = t.diag := rfl

@[simp] theorem Timer.lowerLine_mode (t : Timer) : (t.lowerLine).mode = t.mode := rfl
@[simp] theorem Timer.lowerLine_bitModeCode (t : Timer) : (t.lowerLine).bitModeCode = t.bitModeCode := rfl
@[simp] theorem Timer.lowerLine_prescaler (t : Timer) : (t.lowerLine).prescaler = t.prescaler := rfl
@[simp] theorem Timer.lowerLine_running (t : Timer) : (t.lowerLine).running = t.running := rfl
@[simp] theorem Timer.lowerLine_pulsedStop (t : Timer) : (t.lowerLine).pulsedStop = t.pulsedStop := rfl
@[simp] theorem Timer.lowerLine_liveCounter (t : Timer) : (t.lowerLine).liveCounter = t.liveCounter := rfl
@[simp] theorem Timer.lowerLine_softwareLimit (t : Timer) : (t.lowerLine).softwareLimit = t.softwareLimit := rfl
@[simp] theorem Timer.lowerLine_captureChannel (t : Timer) : (t.lowerLine).captureChannel = t.captureChannel := rfl
@[simp] theorem Timer.lowerLine_compareChannel (t : Timer) : (t.lowerLine).compareChannel = t.compareChannel := rfl
@[simp] theorem Timer.lowerLine_interruptEnableMask (t : Timer) : (t.lowerLine).interruptEnableMask = t.interruptEnableMask := rfl
@[simp] theorem Timer.lowerLine_interruptLine (t : Timer) : (t.lowerLine).interruptLine = false := rfl
@[simp] theorem Timer.lowerLine_compareEvents (t : Timer) : (t.lowerLine).compareEvents = t.compareEvents := rfl
@[simp] theorem Timer.lowerLine_latchedMask (t : Timer) : (t.lowerLine).latchedMask = t.latchedMask := rfl
@[simp] theorem Timer.lowerLine_latchedPrescaler (t : Timer) : (t.lowerLine).latchedPrescaler = t.latchedPrescaler := rfl
@[simp] theorem Timer.lowerLine_activeLimit (t : Timer) : (t.lowerLine).activeLimit = t.activeLimit := rfl
@[simp] theorem Timer.lowerLine_diag (t : Timer) : (t.lowerLine).diag = t.diag := rfl

@[simp] theorem Timer.count_mode (t : Timer) : (t.count).mode = t.mode := rfl
@[simp] theorem Timer.count_bitModeCode (t : Timer) : (t.count).bitModeCode = t.bitModeCode := rfl
@[simp] theorem Timer.count_prescaler (t : Timer) : (t.count).prescaler = t.prescaler := rfl
@[simp] theorem Timer.count_running (t : Timer) : (t.count).running = t.running := rfl
@[simp] theorem Timer.count_pulsedStop (t : Timer) : (t.count).pulsedStop = t.pulsedStop := rfl
@[simp] theorem Timer.count_liveCounter (t : Timer) : (t.count).liveCounter = (t.liveCounter + 1#32) &&& t.latchedMask := rfl
@[simp] theorem Timer.count_softwareLimit (t : Timer) : (t.count).softwareLimit = t.softwareLimit := rfl
@[simp] theorem Timer.count_captureChannel (t : Timer) : (t.count).captureChannel = t.captureChannel := rfl
@[simp] theorem Timer.count_compareChannel (t : Timer) : (t.count).compareChannel = t.compareChannel := rfl
@[simp] theorem Timer.count_interruptEnableMask (t : Timer) : (t.count).interruptEnableMask = t.interruptEnableMask := rfl
@[simp] theorem Timer.count_interruptLine (t : Timer) : (t.count).interruptLine = t.interruptLine := rfl
@[simp] theorem Timer.count_compareEvents (t : Timer) : (t.count).compareEvents = t.compareEvents := rfl
@[simp] theorem Timer.count_latchedMask (t : Timer) : (t.count).latchedMask = t.latchedMask := rfl
@[simp] theorem Timer.count_latchedPrescaler (t : Timer) : (t.count).latchedPrescaler = t.latchedPrescaler := rfl
@[simp] theorem Timer.count_activeLimit (t : Timer) : (t.count).activeLimit = t.activeLimit := rfl
@[simp] theorem Timer.count_diag (t : Timer) : (t.count).diag = t.diag := rfl

@[simp] theorem Timer.log_mode (d : Diag) (t : Timer) : (t.log d).mode = t.mode := rfl
@[simp] theorem Timer.log_bitModeCode (d : Diag) (t : Timer) : (t.log d).bitModeCode = t.bitModeCode := rfl
@[simp] theorem Timer.log_prescaler (d : Diag) (t : Timer) : (t.log d).prescaler = t.prescaler := rfl
@[simp] theorem Timer.log_running (d : Diag) (t : Timer) : (t.log d).running = t.running := rfl
@[simp] theorem Timer.log_pulsedStop (d : Diag) (t : Timer) : (t.log d).pulsedStop = t.pulsedStop := rfl
@[simp] theorem Timer.log_liveCounter (d : Diag) (t : Timer) : (t.log d).liveCounter = t.liveCounter := rfl
@[simp] theorem Timer.log_softwareLimit (d : Diag) (t : Timer) : (t.log d).softwareLimit = t.softwareLimit := rfl
@[simp] theorem Timer.log_captureChannel (d : Diag) (t : Timer) : (t.log d).captureChannel = t.captureChannel := rfl
@[simp] theorem Timer.log_compareChannel (d : Diag) (t : Timer) : (t.log d).compareChannel = t.compareChannel := rfl
@[simp] theorem Timer.log_interruptEnableMask (d : Diag) (t : Timer) : (t.log d).interruptEnableMask = t.interruptEnableMask := rfl
@[simp] theorem Timer.log_interruptLine (d : Diag) (t : Timer) : (t.log d).interruptLine = t.interruptLine := rfl
@[simp] theorem Timer.log_compareEvents (d : Diag) (t : Timer) : (t.log d).compareEvents = t.compareEvents := rfl
@[simp] theorem Timer.log_latchedMask (d : Diag) (t : Timer) : (t.log d).latchedMask = t.latchedMask := rfl
@[simp] theorem Timer.log_latchedPrescaler (d : Diag) (t : Timer) : (t.log d).latchedPrescaler = t.latchedPrescaler := rfl
@[simp] theorem Timer.log_activeLimit (d : Diag) (t : Timer) : (t.log d).activeLimit = t.activeLimit := rfl
@[simp] theorem Timer.log_diag (d : Diag) (t : Timer) : (t.log d).diag = t.diag ++ [d] := rfl

@[simp] theorem Timer.forgetDiag_mode (t : Timer) : (t.forgetDiag).mode = t.mode := rfl
@[simp] theorem Timer.forgetDiag_bitModeCode (t : Timer) : (t.forgetDiag).bitModeCode = t.bitModeCode := rfl
@[simp] theorem Timer.forgetDiag_prescaler (t : Timer) : (t.forgetDiag).prescaler = t.prescaler := rfl
@[simp] theorem Timer.forgetDiag_running (t : Timer) : (t.forgetDiag).running = t.running := rfl
@[simp] theorem Timer.forgetDiag_pulsedStop (t : Timer) : (t.forgetDiag).pulsedStop = t.pulsedStop := rfl
@[simp] theorem Timer.forgetDiag_liveCounter (t : Timer) : (t.forgetDiag).liveCounter = t.liveCounter := rfl
@[simp] theorem Timer.forgetDiag_softwareLimit (t : Timer) : (t.forgetDiag).softwareLimit = t.softwareLimit := rfl
@[simp] theorem Timer.forgetDiag_captureChannel (t : Timer) : (t.forgetDiag).captureChannel = t.captureChannel := rfl
@[simp] theorem Timer.forgetDiag_compareChannel (t : Timer) : (t.forgetDiag).compareChannel = t.compareChannel := rfl
@[simp] theorem Timer.forgetDiag_interruptEnableMask (t : Timer) : (t.forgetDiag).interruptEnableMask = t.interruptEnableMask := rfl
@[simp] theorem Timer.forgetDiag_interruptLine (t : Timer) : (t.forgetDiag).interruptLine = t.interruptLine := rfl
@[simp] theorem Timer.forgetDiag_compareEvents (t : Timer) : (t.forgetDiag).compareEvents = t.compareEvents := rfl
@[simp] theorem Timer.forgetDiag_latchedMask (t : Timer) : (t.forgetDiag).latchedMask = t.latchedMask := rfl
@[simp] theorem Timer.forgetDiag_latchedPrescaler (t : Timer) : (t.forgetDiag).latchedPrescaler = t.latchedPrescaler := rfl
@[simp] theorem Timer.forgetDiag_activeLimit (t : Timer) : (t.forgetDiag).activeLimit = t.activeLimit := rfl
@[simp] theorem Timer.forgetDiag_diag (t : Timer) : (t.forgetDiag).diag = [] := rfl

@[simp] theorem Timer.forgetDiag_forgetDiag (t : Timer) :
    t.forgetDiag.forgetDiag = t.forgetDiag := rfl

/-! ### Updates of the LED decoder -/

@[simp] theorem Led.forgetDiag_forgetDiag (l : Led) : l.forgetDiag.forgetDiag = l.forgetDiag := rfl

@[simp] theorem Led.forgetDiag_litMask (l : Led) : (l.forgetDiag).litMask = l.litMask := rfl
@[simp] theorem Led.forgetDiag_redrawFront (l : Led) : (l.forgetDiag).redrawFront = l.redrawFront := rfl
@[simp] theorem Led.forgetDiag_redrawBack (l : Led) : (l.forgetDiag).redrawBack = l.redrawBack := rfl
@[simp] theorem Led.forgetDiag_diag (l : Led) : (l.forgetDiag).diag = [] := rfl

@[simp] theorem Led.markRedraw_litMask (l : Led) : (l.markRedraw).litMask = l.litMask := rfl
@[simp] theorem Led.markRedraw_redrawFront (l : Led) : (l.markRedraw).redrawFront = true := rfl
@[simp] theorem Led.markRedraw_redrawBack (l : Led) : (l.markRedraw).redrawBack = true := rfl
@[simp] theorem Led.markRedraw_diag (l : Led) : (l.markRedraw).diag = l.diag := rfl

@[simp] theorem Led.log_litMask (d : Diag) (l : Led) : (l.log d).litMask = l.litMask := rfl
@[simp] theorem Led.log_redrawFront (d : Diag) (l : Led) : (l.log d).redrawFront = l.redrawFront := rfl
@[simp] theorem Led.log_redrawBack (d : Diag) (l : Led) : (l.log d).redrawBack = l.redrawBack := rfl
@[simp] theorem Led.log_diag (d : Diag) (l : Led) : (l.log d).diag = l.diag ++ [d] := rfl

/-! ### What a reload takes -/

theorem Timer.reloadValue_eq (t : Timer) :
    t.reloadValue = if t.mode = .counter then t.softwareLimit else 0#32 := by
  unfold Timer.reloadValue
  cases t.mode <;> simp

/-- A reload's value depends on the mode and the software limit alone. -/
theorem Timer.reloadValue_congr {t u : Timer} (hm : t.mode = u.mode)
    (hl : t.softwareLimit = u.softwareLimit) : t.reloadValue = u.reloadValue := by
  simp [Timer.reloadValue, hm, hl]

@[simp] theorem Timer.reload_reloadValue (t : Timer) : t.reload.reloadValue = t.reloadValue := rfl

/-! ### The state at instantiation -/

@[simp] theorem State.init_params (p : Params) : (State.init p).params = p := rfl
@[simp] theorem State.init_timers (p : Params) : (State.init p).timers = List.replicate p.nTimers (Timer.fresh p) := rfl
@[simp] theorem State.init_led (p : Params) : (State.init p).led = Led.fresh := rfl
@[simp] theorem State.init_stream (p : Params) : (State.init p).stream = [] := rfl
@[simp] theorem State.init_pos (p : Params) : (State.init p).pos = 0 := rfl
@[simp] theorem State.init_response (p : Params) : (State.init p).response = .nothing := rfl

end Sys2Proof.Machine
end

