-- ==== Sys2Proof/Laws/Ops.lean ====
section
/-!
SUPPORT. One spec lemma per shared operation: everything it can answer. And the fetch, said once.
-/

namespace Sys2Proof.Machine

variable {s s' : State} {k : Nat} {t : Timer} {r : Response}

/-- Replacing a timer by itself changes nothing. -/
theorem State.putTimer_self (h : s.timers[k]? = some t) : s.putTimer k t = s := by
  obtain ⟨hlt, rfl⟩ := List.getElem?_eq_some_iff.mp h
  simp [State.putTimer]

theorem State.putTimer_get (h : s.timers[k]? = some t) (u : Timer) :
    (s.putTimer k u).timers[k]? = some u := by
  obtain ⟨hlt, _⟩ := List.getElem?_eq_some_iff.mp h
  simp [hlt]

theorem State.putTimer_get_ne {j : Nat} (h : j ≠ k) (u : Timer) :
    (s.putTimer k u).timers[j]? = s.timers[j]? := by
  simp [List.getElem?_set_ne (Ne.symm h)]

/-- Where the instance exists, `updateTimer` performs its function on it. -/
theorem updateTimer_of_some (h : s.timers[k]? = some t) (f : Timer → Timer) :
    updateTimer k s r f = .next ((s.putTimer k (f t)).respond r) := by
  simp [updateTimer, h]

theorem updateTimer_of_none (h : s.timers[k]? = none) (f : Timer → Timer) :
    updateTimer k s r f = .refused (.noSuchTimer k) := by
  simp [updateTimer, h]

/-- All that `updateTimer` can do when it answers a next state. -/
theorem updateTimer_next {f : Timer → Timer} (h : updateTimer k s r f = .next s') :
    ∃ t, s.timers[k]? = some t ∧ s' = (s.putTimer k (f t)).respond r := by
  unfold updateTimer at h
  split at h
  · next t ht => exact ⟨t, ht, by simpa using h.symm⟩
  · cases h

theorem writeTimer_of_some (h : s.timers[k]? = some t) (f : Timer → Timer) :
    writeTimer k s f = .next ((s.putTimer k (f t)).respond .nothing) :=
  updateTimer_of_some h f

theorem queryTimer_of_some (h : s.timers[k]? = some t) (f : Timer → Response) :
    queryTimer k s f = .next (s.respond (f t)) := by
  simp [queryTimer, h]

theorem queryTimer_of_none (h : s.timers[k]? = none) (f : Timer → Response) :
    queryTimer k s f = .refused (.noSuchTimer k) := by
  simp [queryTimer, h]

/-- All that `queryTimer` can do when it answers a next state. -/
theorem queryTimer_next {f : Timer → Response} (h : queryTimer k s f = .next s') :
    ∃ t, s.timers[k]? = some t ∧ s' = s.respond (f t) := by
  unfold queryTimer at h
  split at h
  · next t ht => exact ⟨t, ht, by simpa using h.symm⟩
  · cases h

theorem readTimer_of_some (h : s.timers[k]? = some t) (f : Timer → Word) :
    readTimer k s f = .next (s.respond (.word (f t))) :=
  queryTimer_of_some h _

/-- The tick of a running instance. -/
theorem execTick_of_running (h : s.timers[k]? = some t) (hr : t.running = true) :
    execTick k s = .next ((s.putTimer k t.tick).respond .nothing) := by
  simp [execTick, h, hr, writeTimer_of_some h]

theorem execTick_of_stopped (h : s.timers[k]? = some t) (hr : t.running = false) :
    execTick k s = .fault (.noTickStep k) := by
  simp [execTick, h, hr]

/-! ### The fetch and the step -/

/-- A fetched operation is the decoding of the request at the stream position. -/
theorem State.fetch_of_decode {req : Request} {i : Instr} (h : s.stream[s.pos]? = some req)
    (hd : decode s.params req = .ok i) : s.fetch = .run i := by
  cases req <;> simp_all [State.fetch, decode]

theorem State.fetch_of_reject {req : Request} {e : Reject} (h : s.stream[s.pos]? = some req)
    (hi : req ≠ .imageLoad) (hd : decode s.params req = .error e) : s.fetch = .reject e := by
  cases req <;> simp_all [State.fetch]

/-- All that a step can do when it answers a next state. -/
theorem step_next (h : step s = .next s') :
    s' = s ∨ s' = s.advance ∨ ∃ i u, s.fetch = .run i ∧ exec i s = .next u ∧ s' = u.advance := by
  unfold step runNext at h
  split at h
  · exact .inl (by simpa using h.symm)
  · exact .inr (.inl (by simpa [finish] using h.symm))
  · next i hi =>
    refine .inr (.inr ?_)
    unfold finish at h
    split at h
    · next u hu => exact ⟨i, u, hi, hu, by simpa using h.symm⟩
    · cases h
    · cases h
  · cases h

end Sys2Proof.Machine
end

