-- ==== Sys2Proof/Laws/Effect.lean ====
section
/-!
SUPPORT. What `exec` can do, said once: every operation is a function of its device and the
parameters, performed on that device alone. Whole-machine claims case-split on these functions instead
of unfolding `exec`.
-/

/-- An operation addresses a timer or the LED decoder. -/
theorem Sys2Proof.Instr.target_cases (i : Sys2Proof.Instr) :
    (∃ k, i.target = .timer k) ∨ i.target = .led := by
  cases h : i.target with
  | timer k => exact .inl ⟨k, rfl⟩
  | led => exact .inr rfl

namespace Sys2Proof.Machine

/-- The timer an operation leaves of the timer it is addressed to. -/
def timerAfter (p : Params) (i : Instr) (t : Timer) : Timer :=
  match i with
  | .wStart _ _ => t.start p
  | .wStop _ _ => t.stop
  | .wLimit _ value => t.writeLimit value
  | .wClear _ _ => t.clear
  | .wShutdown _ _ => t.shutdown
  | .wIntenset _ value => t.enable p value
  | .wIntenclr _ value => t.disable p value
  | .wMode _ value => t.writeMode value
  | .wBitmode _ value => t.writeBitmode value
  | .wPrescaler _ value => t.writePrescaler value
  | .wCapture _ i _ => t.capture i
  | .wCc _ i value => t.writeCompare i value
  | .tick _ => t.tick
  | .tReset _ => t.reset p
  | .tRestore _ rec => t.restore rec
  | .tRBadoffset k offset width => t.log (timerReadDiag p k offset width)
  | .tWBadoffset k offset value width => t.log (timerWriteDiag p k offset value width)
  | .rStart _ | .rStop _ | .rLimit _ | .rClear _ | .rShutdown _ | .rIntenset _ | .rIntenclr _
  | .rMode _ | .rBitmode _ | .rPrescaler _ | .rCapture _ _ | .rCc _ _ | .wDrive _ | .rDrive
  | .tSave _ | .lReset | .lSave | .lRestore _ | .sinkAck _ _ | .lRBadoffset _ _
  | .lWBadoffset _ _ _ => t

/-- What a timer operation returns. -/
def timerResponse (p : Params) (i : Instr) (t : Timer) : Response :=
  match i with
  | .rStart _ => .word taskWord
  | .rStop _ => .word taskWord
  | .rLimit _ => .word t.softwareLimit
  | .rClear _ => .word taskWord
  | .rShutdown _ => .word taskWord
  | .rIntenset _ => .word (intenWord p t.interruptEnableMask)
  | .rIntenclr _ => .word (intenWord p t.interruptEnableMask)
  | .rMode _ => .word (modeWord t.mode)
  | .rBitmode _ => .word (t.bitModeCode.setWidth 32)
  | .rPrescaler _ => .word (t.prescaler.setWidth 32)
  | .rCapture _ i => .word (t.captureChannel.get i)
  | .rCc _ i => .word (t.compareChannel.get i)
  | .tSave _ => .timerRecord t.record
  | .tRBadoffset _ _ _ => .word 0#32
  | .wStart _ _ | .wStop _ _ | .wLimit _ _ | .wClear _ _ | .wShutdown _ _ | .wIntenset _ _
  | .wIntenclr _ _ | .wMode _ _ | .wBitmode _ _ | .wPrescaler _ _ | .wCapture _ _ _ | .wCc _ _ _
  | .wDrive _ | .rDrive | .tick _ | .tReset _ | .tRestore _ _ | .lReset | .lSave | .lRestore _
  | .sinkAck _ _ | .tWBadoffset _ _ _ _ | .lRBadoffset _ _ | .lWBadoffset _ _ _ => .nothing

/-- The LED decoder an operation leaves of it. -/
def ledAfter (p : Params) (i : Instr) (l : Led) : Led :=
  match i with
  | .wDrive value => l.drive p value
  | .rDrive => l.markRedraw
  | .lReset => l.reset
  | .lRestore rec => l.restore rec
  | .sinkAck front back => l.ack front back
  | .lRBadoffset offset width => l.log (.badOffsetRead .led offset width)
  | .lWBadoffset offset value width => l.log (.badOffsetWrite .led offset value width)
  | .wStart _ _ | .rStart _ | .wStop _ _ | .rStop _ | .wLimit _ _ | .rLimit _ | .wClear _ _
  | .rClear _ | .wShutdown _ _ | .rShutdown _ | .wIntenset _ _ | .rIntenset _ | .wIntenclr _ _
  | .rIntenclr _ | .wMode _ _ | .rMode _ | .wBitmode _ _ | .rBitmode _ | .wPrescaler _ _
  | .rPrescaler _ | .wCapture _ _ _ | .rCapture _ _ | .wCc _ _ _ | .rCc _ _ | .tick _ | .tReset _
  | .tSave _ | .tRestore _ _ | .lSave | .tRBadoffset _ _ _ | .tWBadoffset _ _ _ _ => l

/-- What an LED operation returns. -/
def ledResponse (i : Instr) (l : Led) : Response :=
  match i with
  | .rDrive => .word (litWord l)
  | .lSave => .ledRecord l.record
  | .lRBadoffset _ _ => .word 0#32
  | .wStart _ _ | .rStart _ | .wStop _ _ | .rStop _ | .wLimit _ _ | .rLimit _ | .wClear _ _
  | .rClear _ | .wShutdown _ _ | .rShutdown _ | .wIntenset _ _ | .rIntenset _ | .wIntenclr _ _
  | .rIntenclr _ | .wMode _ _ | .rMode _ | .wBitmode _ _ | .rBitmode _ | .wPrescaler _ _
  | .rPrescaler _ | .wCapture _ _ _ | .rCapture _ _ | .wCc _ _ _ | .rCc _ _ | .wDrive _ | .tick _
  | .tReset _ | .tSave _ | .tRestore _ _ | .lReset | .lRestore _ | .sinkAck _ _
  | .tRBadoffset _ _ _ | .tWBadoffset _ _ _ _ | .lWBadoffset _ _ _ => .nothing

/-- The timer operation is performed on this timer: a tick needs a running timer (R170), a restore a
well-formed record (R224). -/
def timerPerforms (i : Instr) (t : Timer) : Bool :=
  match i with
  | .tick _ => t.running
  | .tRestore _ rec => timerRecordOk rec
  | .wStart _ _ | .rStart _ | .wStop _ _ | .rStop _ | .wLimit _ _ | .rLimit _ | .wClear _ _
  | .rClear _ | .wShutdown _ _ | .rShutdown _ | .wIntenset _ _ | .rIntenset _ | .wIntenclr _ _
  | .rIntenclr _ | .wMode _ _ | .rMode _ | .wBitmode _ _ | .rBitmode _ | .wPrescaler _ _
  | .rPrescaler _ | .wCapture _ _ _ | .rCapture _ _ | .wCc _ _ _ | .rCc _ _ | .wDrive _ | .rDrive
  | .tReset _ | .tSave _ | .lReset | .lSave | .lRestore _ | .sinkAck _ _ | .tRBadoffset _ _ _
  | .tWBadoffset _ _ _ _ | .lRBadoffset _ _ | .lWBadoffset _ _ _ => true

/-- The LED operation is performed: a restore needs a well-formed record (R225). -/
def ledPerforms (i : Instr) : Bool :=
  match i with
  | .lRestore rec => ledRecordOk rec
  | .wStart _ _ | .rStart _ | .wStop _ _ | .rStop _ | .wLimit _ _ | .rLimit _ | .wClear _ _
  | .rClear _ | .wShutdown _ _ | .rShutdown _ | .wIntenset _ _ | .rIntenset _ | .wIntenclr _ _
  | .rIntenclr _ | .wMode _ _ | .rMode _ | .wBitmode _ _ | .rBitmode _ | .wPrescaler _ _
  | .rPrescaler _ | .wCapture _ _ _ | .rCapture _ _ | .wCc _ _ _ | .rCc _ _ | .wDrive _ | .rDrive
  | .tick _ | .tReset _ | .tSave _ | .tRestore _ _ | .lReset | .lSave | .sinkAck _ _
  | .tRBadoffset _ _ _ | .tWBadoffset _ _ _ _ | .lRBadoffset _ _ | .lWBadoffset _ _ _ => true

variable {i : Instr} {s s' : State} {k : Nat} {t : Timer}

/-- A performed timer operation. -/
theorem exec_timer (hi : i.target = .timer k) (ht : s.timers[k]? = some t)
    (hp : timerPerforms i t = true) :
    exec i s = .next ((s.putTimer k (timerAfter s.params i t)).respond
      (timerResponse s.params i t)) := by
  cases i <;> simp only [Instr.target, Dev.timer.injEq, reduceCtorEq] at hi <;> subst hi
  case tick => exact execTick_of_running ht hp
  case tRestore rec => simp_all [exec, execTRestore, timerPerforms, writeTimer, updateTimer,
    timerAfter, timerResponse]
  all_goals
    first
    | exact updateTimer_of_some ht _
    | exact (queryTimer_of_some ht _).trans (by rw [timerAfter, State.putTimer_self ht]; rfl)

/-- A performed LED operation. -/
theorem exec_led (hi : i.target = .led) (hp : ledPerforms i = true) :
    exec i s = .next ((s.putLed (ledAfter s.params i s.led)).respond (ledResponse i s.led)) := by
  cases i <;> simp only [Instr.target, reduceCtorEq] at hi
  case lRestore rec => simp_all [exec, execLRestore, ledPerforms, updateLed, ledAfter, ledResponse]
  all_goals rfl

/-- A timer operation on an instance that does not exist is refused (the model's own, R80), a
malformed record first (R224). -/
theorem exec_timer_none (hi : i.target = .timer k) (ht : s.timers[k]? = none) :
    exec i s = .refused (.noSuchTimer k) ∨
      (∃ rec, i = .tRestore k rec ∧ timerRecordOk rec = false ∧ exec i s = .refused .badRecord) := by
  cases i <;> simp only [Instr.target, Dev.timer.injEq, reduceCtorEq] at hi <;> subst hi
  case tick => exact .inl (by simp [exec, execTick, ht])
  case tRestore rec =>
    cases h : timerRecordOk rec with
    | true => exact .inl (by simp [exec, execTRestore, h, writeTimer, updateTimer_of_none ht])
    | false => exact .inr ⟨rec, rfl, h, by simp [exec, execTRestore, h]⟩
  all_goals
    first
    | exact .inl (updateTimer_of_none ht _)
    | exact .inl (queryTimer_of_none ht _)

/-- A timer operation that is not performed answers no next state. -/
theorem exec_timer_not (hi : i.target = .timer k) (ht : s.timers[k]? = some t)
    (hp : timerPerforms i t = false) :
    (i = .tick k ∧ exec i s = .fault (.noTickStep k)) ∨
      (∃ rec, i = .tRestore k rec ∧ timerRecordOk rec = false ∧ exec i s = .refused .badRecord) := by
  cases i <;> simp only [Instr.target, Dev.timer.injEq, reduceCtorEq] at hi <;>
    simp only [timerPerforms, Bool.true_eq_false] at hp <;> subst hi
  · exact .inl ⟨rfl, execTick_of_stopped ht hp⟩
  · next rec => exact .inr ⟨rec, rfl, hp, by simp [exec, execTRestore, hp]⟩

/-- All that a timer operation can do when it answers a next state. -/
theorem exec_timer_next (hi : i.target = .timer k) (h : exec i s = .next s') :
    ∃ t, s.timers[k]? = some t ∧ timerPerforms i t = true ∧
      s' = (s.putTimer k (timerAfter s.params i t)).respond (timerResponse s.params i t) := by
  cases ht : s.timers[k]? with
  | none =>
    rcases exec_timer_none hi ht with he | ⟨_, _, _, he⟩ <;> simp [he] at h
  | some t =>
    cases hp : timerPerforms i t with
    | true => exact ⟨t, rfl, hp, by simpa [exec_timer hi ht hp] using h.symm⟩
    | false =>
      rcases exec_timer_not hi ht hp with ⟨_, he⟩ | ⟨_, _, _, he⟩ <;> simp [he] at h

/-- All that an LED operation can do when it answers a next state. -/
theorem exec_led_next (hi : i.target = .led) (h : exec i s = .next s') :
    ledPerforms i = true ∧
      s' = (s.putLed (ledAfter s.params i s.led)).respond (ledResponse i s.led) := by
  cases hp : ledPerforms i with
  | true => exact ⟨rfl, by simpa [exec_led hi hp] using h.symm⟩
  | false =>
    cases i <;> simp only [ledPerforms, Bool.true_eq_false] at hp
    simp [exec, execLRestore, hp] at h

end Sys2Proof.Machine
end

