-- ==== Sys2Proof/Laws/Devices.lean ====
section
/-!
SUPPORT. The devices' own operations: what a tick leaves alone, what its channel loop computes, how the
scan decoder's folds read bit by bit, and that each timer operation keeps the timer's invariants.
-/

namespace Sys2Proof.Machine

/-! ### The channel loop of a tick -/

/-- One turn of the loop writes the line and the channel's event counter, and nothing else (R179). -/
theorem Timer.evalChannel_eq (t : Timer) (i : Channel) :
    t.evalChannel i = { t with
      interruptLine := if t.interruptEnableMask.getLsbD i.val then
        decide (t.compareChannel.get i = t.liveCounter) else t.interruptLine
      compareEvents := if t.interruptEnableMask.getLsbD i.val = true ∧
          t.compareChannel.get i = t.liveCounter then
        t.compareEvents.set i (t.compareEvents.get i + 1#32) else t.compareEvents } := by
  unfold Timer.evalChannel
  by_cases hc : t.compareChannel.get i = t.liveCounter <;>
    cases t.interruptEnableMask.getLsbD i.val <;>
    simp [hc, Timer.raiseLine, Timer.lowerLine]

/-- The loop's result: the highest enabled channel sets the line (R175), every enabled match counts
(R178). -/
theorem Timer.evalChannels_eq (t : Timer) :
    ∃ ev : Quad Word,
      t.evalChannels = { t with
        interruptLine := match t.highestEnabled with
          | none => t.interruptLine
          | some h => decide (t.compareChannel.get h = t.liveCounter)
        compareEvents := ev } ∧
      ∀ j : Channel, ev.get j =
        if t.interruptEnableMask.getLsbD j.val = true ∧ t.compareChannel.get j = t.liveCounter
        then t.compareEvents.get j + 1#32 else t.compareEvents.get j := by
  refine ⟨t.evalChannels.compareEvents, ?_, ?_⟩
  · have h1 : (1 : Channel).val = 1 := rfl
    have h2 : (2 : Channel).val = 2 := rfl
    have h3 : (3 : Channel).val = 3 := rfl
    simp only [Timer.evalChannels, List.foldl, Timer.evalChannel_eq, Timer.highestEnabled,
      Fin.val_zero, h1, h2, h3]
    congr 1
    by_cases e3 : t.interruptEnableMask.getLsbD 3 = true <;>
      by_cases e2 : t.interruptEnableMask.getLsbD 2 = true <;>
      by_cases e1 : t.interruptEnableMask.getLsbD 1 = true <;>
      by_cases e0 : t.interruptEnableMask.getLsbD 0 = true <;>
      simp only [e3, e2, e1, e0, Bool.false_eq_true, if_true, if_false]
  · intro j
    have hif : ∀ (c : Prop) [Decidable c] (q r : Quad Word) (n : Channel),
        (if c then q else r).get n = if c then q.get n else r.get n := by
      intro c _ q r n
      split <;> rfl
    simp only [Timer.evalChannels, List.foldl, Timer.evalChannel_eq, hif, Quad.get_set]
    match j with
    | 0 | 1 | 2 | 3 => simp

/-- A tick writes the counter, the line and the event counters, and nothing else (R179). -/
theorem Timer.tick_eq (t : Timer) :
    ∃ c line ev, t.tick = { t with liveCounter := c, interruptLine := line, compareEvents := ev } := by
  unfold Timer.tick
  split
  · unfold Timer.compareLimit
    split
    · exact ⟨0#32, true, t.compareEvents, rfl⟩
    · exact ⟨(t.liveCounter + 1#32) &&& t.latchedMask, false, t.compareEvents, rfl⟩
  · obtain ⟨ev, h, _⟩ := t.count.evalChannels_eq
    exact ⟨(t.liveCounter + 1#32) &&& t.latchedMask, _, ev, h⟩

/-- In TIMER mode a tick's counter is step 1's. -/
theorem Timer.tick_liveCounter_of_timer {t : Timer} (h : t.mode = .timer) :
    t.tick.liveCounter = (t.liveCounter + 1#32) &&& t.latchedMask := by
  obtain ⟨ev, he, _⟩ := t.count.evalChannels_eq
  simp [Timer.tick, h, he]

/-- In COUNTER mode a tick's counter is step 1's, or 0 where that is the limit. -/
theorem Timer.tick_of_counter {t : Timer} (h : t.mode = .counter) :
    t.tick =
      if (t.liveCounter + 1#32) &&& t.latchedMask = t.softwareLimit
      then { t with liveCounter := 0#32, interruptLine := true }
      else { t with liveCounter := (t.liveCounter + 1#32) &&& t.latchedMask,
                    interruptLine := false } := by
  have ht : t.tick = t.count.compareLimit := by
    unfold Timer.tick
    rw [h]
  rw [ht, Timer.compareLimit, Timer.count_liveCounter, Timer.count_softwareLimit]
  rfl

/-! ### A tick does not look at the diagnostic list -/

theorem Timer.evalChannel_forgetDiag (t : Timer) (i : Channel) :
    t.forgetDiag.evalChannel i = (t.evalChannel i).forgetDiag := by
  simp only [Timer.evalChannel_eq, Timer.forgetDiag]

theorem Timer.compareLimit_forgetDiag (t : Timer) :
    t.forgetDiag.compareLimit = t.compareLimit.forgetDiag := by
  unfold Timer.compareLimit
  rw [Timer.forgetDiag_liveCounter, Timer.forgetDiag_softwareLimit,
    apply_ite Timer.forgetDiag]
  rfl

theorem Timer.tick_forgetDiag (t : Timer) : t.forgetDiag.tick = t.tick.forgetDiag := by
  have hc : t.forgetDiag.count = t.count.forgetDiag := rfl
  unfold Timer.tick
  rw [Timer.forgetDiag_mode, hc]
  split
  · exact t.count.compareLimit_forgetDiag
  · simp only [Timer.evalChannels, List.foldl, Timer.evalChannel_forgetDiag]

/-! ### Folds of the scan decoder -/

/-- A fold that ORs in chosen values reads bit by bit as "some chosen value has the bit". -/
theorem foldl_or_getLsbD {α : Type} {n : Nat} (l : List α) (sel : α → Bool) (f : α → BitVec n)
    (acc : BitVec n) (b : Nat) :
    (l.foldl (fun a x => if sel x then a ||| f x else a) acc).getLsbD b =
      (acc.getLsbD b || l.any (fun x => sel x && (f x).getLsbD b)) := by
  induction l generalizing acc with
  | nil => simp
  | cons x xs ih =>
    simp only [List.foldl_cons, ih, List.any_cons]
    cases sel x <;> simp [Bool.or_assoc]

/-- A bit of `ROW_CLEAR[r]` (R195). -/
theorem rowClear_getLsbD (p : Params) (r : Fin 3) (b : Nat) :
    (p.rowClear r).getLsbD b =
      (List.range 9).any (fun c => (LedCell.bit (p.ledCell r c)).getLsbD b) := by
  have := foldl_or_getLsbD (List.range 9) (fun _ => true) (fun c => LedCell.bit (p.ledCell r c)) 0#25 b
  simpa [Params.rowClear] using this

/-- A bit of a drive word's decode (R197). -/
theorem ledBits_getLsbD (p : Params) (r : Fin 3) (v : Word) (b : Nat) :
    (ledBits p r v).getLsbD b =
      (List.range 9).any
        (fun c => columnDriven v c && (LedCell.bit (p.ledCell r c)).getLsbD b) := by
  have := foldl_or_getLsbD (List.range 9) (columnDriven v) (fun c => LedCell.bit (p.ledCell r c)) 0#25 b
  simpa [ledBits] using this

/-! ### Each timer operation keeps the timer's invariants -/

theorem Timer.fresh_inv (p : Params) : (Timer.fresh p).Inv := by
  refine ⟨by simp [Timer.fresh], p.maskOf_mem _, ?_, effectivePrescaler_le _, rfl⟩
  exact BitVec.le_def.mpr (Nat.zero_le _)

theorem Timer.reset_inv (p : Params) (t : Timer) : (t.reset p).Inv := Timer.fresh_inv p

theorem Timer.start_inv {p : Params} {t : Timer} (h : t.Inv) : (t.start p).Inv := by
  obtain ⟨_, hm, hc, hp, ha⟩ := h
  unfold Timer.start
  split
  · exact ⟨by simp, hm, hc, hp, ha⟩
  · exact ⟨by simp, p.maskOf_mem _, and_le_mask _ _, effectivePrescaler_le _, rfl⟩

theorem Timer.stop_inv {t : Timer} (h : t.Inv) : t.stop.Inv := by
  obtain ⟨hr, hm, hc, hp, ha⟩ := h
  unfold Timer.stop
  split
  · exact ⟨by simp, hm, hc, hp, ha⟩
  · exact ⟨hr, hm, hc, hp, ha⟩

theorem Timer.clear_inv {t : Timer} (h : t.Inv) : t.clear.Inv :=
  ⟨h.1, h.2.1, BitVec.le_def.mpr (Nat.zero_le _), h.2.2.2.1, rfl⟩

theorem Timer.shutdown_inv {t : Timer} (h : t.Inv) : t.shutdown.Inv :=
  ⟨by simp [Timer.shutdown], h.2.1, BitVec.le_def.mpr (Nat.zero_le _), h.2.2.2.1, rfl⟩

theorem Timer.writeMode_inv {t : Timer} (h : t.Inv) (v : Word) : (t.writeMode v).Inv :=
  ⟨h.1, h.2.1, h.2.2.1, h.2.2.2.1, rfl⟩

theorem Timer.writeLimit_inv {t : Timer} (h : t.Inv) (v : Word) : (t.writeLimit v).Inv := by
  unfold Timer.writeLimit
  split
  · exact ⟨h.1, h.2.1, h.2.2.1, h.2.2.2.1, rfl⟩
  · exact h

theorem Timer.tick_inv {t : Timer} (h : t.Inv) : t.tick.Inv := by
  obtain ⟨hr, hm, hc, hp, ha⟩ := h
  have hlive : t.tick.liveCounter ≤ t.latchedMask := by
    cases hmode : t.mode with
    | timer =>
      rw [Timer.tick_liveCounter_of_timer hmode]
      exact and_le_mask _ _
    | counter =>
      rw [Timer.tick_of_counter hmode]
      split
      · exact BitVec.le_def.mpr (Nat.zero_le _)
      · exact and_le_mask _ _
  obtain ⟨c, line, ev, he⟩ := t.tick_eq
  rw [he] at hlive ⊢
  exact ⟨hr, hm, hlive, hp, ha⟩

/-- R224's check is what a restored timer's invariants need. -/
theorem timerRecordOk_iff (rec : TimerRecord) :
    timerRecordOk rec = true ↔
      ¬(rec.running = true ∧ rec.pulsedStop = true) ∧ rec.latchedMask ∈ counterMasks ∧
      rec.liveCounter ≤ rec.latchedMask ∧ rec.latchedPrescaler ≤ 9 ∧ rec.prescaler ≤ 15 ∧
      rec.bitModeCode ≤ 3 ∧ rec.interruptEnableMask ≤ 15 ∧
      rec.activeLimit = if rec.mode = .counter then rec.softwareLimit else 0#32 := by
  cases hm : rec.mode <;> cases hr : rec.running <;> cases hs : rec.pulsedStop <;>
    simp [timerRecordOk, hm, hr, hs, and_assoc]

theorem Timer.restore_inv {rec : TimerRecord} (h : timerRecordOk rec = true) (t : Timer) :
    (t.restore rec).Inv := by
  obtain ⟨hr, hm, hc, hp, _, _, _, ha⟩ := (timerRecordOk_iff rec).mp h
  refine ⟨hr, hm, hc, ?_, ?_⟩
  · rw [BitVec.le_def]
    simp only [Timer.restore, BitVec.toNat_ofNat]
    omega
  · rw [Timer.reloadValue_eq]
    exact ha

/-! ### Records -/

/-- A timer with the invariants saves a well-formed record (R223, R224). -/
theorem Timer.record_ok {t : Timer} (h : t.Inv) : timerRecordOk t.record = true := by
  obtain ⟨hr, hm, hc, hp, ha⟩ := h
  refine (timerRecordOk_iff _).mpr ⟨hr, hm, hc, ?_, ?_, ?_, ?_, ?_⟩
  · exact hp
  · have := t.prescaler.isLt
    simp only [Timer.record]
    omega
  · have := t.bitModeCode.isLt
    simp only [Timer.record]
    omega
  · have := t.interruptEnableMask.isLt
    simp only [Timer.record]
    omega
  · rw [Timer.reloadValue_eq] at ha
    exact ha

/-- Restoring a saved record gives the saved timer back, but for `diag` (R227). -/
theorem Timer.restore_record (t u : Timer) : u.restore t.record = { t with diag := u.diag } := by
  simp [Timer.restore, Timer.record]

end Sys2Proof.Machine
end

