-- ==== Sys2Proof/Laws/Operands.lean ====
section
/-!
SUPPORT. What each field of a written value is, as a number (R85), and how the request checks of R84
read.
-/

namespace Sys2Proof.Machine

theorem modeField_eq (v : Word) :
    modeField v = if v.toNat % 2 = 1 then TimerMode.counter else TimerMode.timer := by
  have h : v.getLsbD 0 = decide (v.toNat % 2 = 1) := by
    rw [BitVec.getLsbD, Nat.testBit_zero]
  unfold modeField
  rw [h]
  simp only [decide_eq_true_eq]

theorem bitmodeField_eq (v : Word) : bitmodeField v = BitVec.ofNat 2 (v.toNat % 4) := by
  apply BitVec.eq_of_toNat_eq
  simp [bitmodeField]

theorem prescalerField_eq (v : Word) : prescalerField v = BitVec.ofNat 4 (v.toNat % 16) := by
  apply BitVec.eq_of_toNat_eq
  simp [prescalerField]

theorem intenField_getLsbD (p : Params) (v : Word) {j : Nat} (h : j < 4) :
    (intenField p v).getLsbD j = v.getLsbD (p.intenShift + j) := by
  simp [intenField, h]

theorem rowSelField_toNat (v : Word) : (rowSelField v).toNat = v.toNat / 2 ^ 13 % 8 := by
  simp [rowSelField, Nat.shiftRight_eq_div_pow]

theorem rowOfCode_eq_some (c : BitVec 3) (r : Fin 3) :
    rowOfCode c = some r ↔ c.toNat = 2 ^ r.val := by
  revert c r
  decide

theorem rowOfCode_eq_none (c : BitVec 3) : rowOfCode c = none ↔ c.toNat ∉ [1, 2, 4] := by
  revert c
  decide

/-- The row a drive word selects (R191). -/
theorem driveRow_eq_some (v : Word) (r : Fin 3) :
    driveRow v = some r ↔ v.toNat / 2 ^ 13 % 8 = 2 ^ r.val := by
  rw [driveRow, rowOfCode_eq_some, rowSelField_toNat]

/-- An invalid row select (R191, R192). -/
theorem driveRow_eq_none (v : Word) : driveRow v = none ↔ v.toNat / 2 ^ 13 % 8 ∉ [1, 2, 4] := by
  rw [driveRow, rowOfCode_eq_none, rowSelField_toNat]

end Sys2Proof.Machine

namespace Sys2Proof

/-- A width is refused exactly where it has no meaning (R64, R84). -/
theorem Params.widthReject_eq_none (p : Params) (w : BitVec 8) :
    p.widthReject w = none ↔ p.widthAllowed w = true := by
  unfold Params.widthReject Params.widthAllowed
  by_cases h4 : w = 4#8
  · simp [h4]
  · by_cases h12 : w = 1#8 ∨ w = 2#8
    · cases p.narrowAccess <;> simp [h4, h12]
    · simp [h4, h12]

@[simp] theorem Params.performedWidth_eq (p : Params) (w : BitVec 8) : p.performedWidth w = 4#8 := rfl

/-- A transaction of an allowed width is decoded as the 32-bit transaction (R64, R84). -/
theorem Params.decodeBus_of_widthAllowed {p : Params} {w : BitVec 8} (h : p.widthAllowed w = true)
    (dev : Dev) (dir : Dir) (offset value : Word) :
    p.decodeBus dev dir offset w value = .ok (match dev with
      | .timer k => p.decodeTimer k dir offset 4#8 value
      | .led => p.decodeLed dir offset 4#8 value) := by
  cases dev <;> simp [Params.decodeBus, (p.widthReject_eq_none w).mpr h]

theorem Params.devReject_eq_none (p : Params) (d : Dev) :
    p.devReject d = none ↔ p.hasDev d = true := by
  cases d <;> simp [Params.devReject, Params.hasDev]

end Sys2Proof
end

