-- ==== Sys2Proof/Laws/PerInstr.lean ====
section
/-!
SUPPORT. One lemma for each constructor: the request an operation is encoded as is addressed to the device
the operation acts on (R80, R82), whatever the parameters.
-/

namespace Sys2Proof.Laws.EncodeTarget

/-- The device a request is addressed to (R80, R82); an image-load event has none (R231). -/
def addressee (r : Request) : Option Dev :=
  match r with
  | .bus dev _ _ _ _ => some dev
  | .event dev _ _ => some dev
  | .imageLoad => none

/-- The encoding of the operation is addressed to its target. -/
def Statement (i : Instr) : Prop :=
  ∀ p : Params, addressee (encode p i) = some i.target

theorem wStart (k : Nat) (value : Word) : Statement (.wStart k value) := fun _ => rfl

theorem rStart (k : Nat) : Statement (.rStart k) := fun _ => rfl

theorem wStop (k : Nat) (value : Word) : Statement (.wStop k value) := fun _ => rfl

theorem rStop (k : Nat) : Statement (.rStop k) := fun _ => rfl

theorem wLimit (k : Nat) (value : Word) : Statement (.wLimit k value) := fun _ => rfl

theorem rLimit (k : Nat) : Statement (.rLimit k) := fun _ => rfl

theorem wClear (k : Nat) (value : Word) : Statement (.wClear k value) := fun _ => rfl

theorem rClear (k : Nat) : Statement (.rClear k) := fun _ => rfl

theorem wShutdown (k : Nat) (value : Word) : Statement (.wShutdown k value) := fun _ => rfl

theorem rShutdown (k : Nat) : Statement (.rShutdown k) := fun _ => rfl

theorem wIntenset (k : Nat) (value : Word) : Statement (.wIntenset k value) := fun _ => rfl

theorem rIntenset (k : Nat) : Statement (.rIntenset k) := fun _ => rfl

theorem wIntenclr (k : Nat) (value : Word) : Statement (.wIntenclr k value) := fun _ => rfl

theorem rIntenclr (k : Nat) : Statement (.rIntenclr k) := fun _ => rfl

theorem wMode (k : Nat) (value : Word) : Statement (.wMode k value) := fun _ => rfl

theorem rMode (k : Nat) : Statement (.rMode k) := fun _ => rfl

theorem wBitmode (k : Nat) (value : Word) : Statement (.wBitmode k value) := fun _ => rfl

theorem rBitmode (k : Nat) : Statement (.rBitmode k) := fun _ => rfl

theorem wPrescaler (k : Nat) (value : Word) : Statement (.wPrescaler k value) := fun _ => rfl

theorem rPrescaler (k : Nat) : Statement (.rPrescaler k) := fun _ => rfl

theorem wCapture (k : Nat) (i : Channel) (value : Word) : Statement (.wCapture k i value) := fun _ => rfl

theorem rCapture (k : Nat) (i : Channel) : Statement (.rCapture k i) := fun _ => rfl

theorem wCc (k : Nat) (i : Channel) (value : Word) : Statement (.wCc k i value) := fun _ => rfl

theorem rCc (k : Nat) (i : Channel) : Statement (.rCc k i) := fun _ => rfl

theorem wDrive (value : Word) : Statement (.wDrive value) := fun _ => rfl

theorem rDrive : Statement (.rDrive) := fun _ => rfl

theorem tick (k : Nat) : Statement (.tick k) := fun _ => rfl

theorem tReset (k : Nat) : Statement (.tReset k) := fun _ => rfl

theorem tSave (k : Nat) : Statement (.tSave k) := fun _ => rfl

theorem tRestore (k : Nat) (rec : TimerRecord) : Statement (.tRestore k rec) := fun _ => rfl

theorem lReset : Statement (.lReset) := fun _ => rfl

theorem lSave : Statement (.lSave) := fun _ => rfl

theorem lRestore (rec : LedRecord) : Statement (.lRestore rec) := fun _ => rfl

theorem sinkAck (front : Bool) (back : Bool) : Statement (.sinkAck front back) := fun _ => rfl

theorem tRBadoffset (k : Nat) (offset : Word) (width : BitVec 8) : Statement (.tRBadoffset k offset width) := fun _ => rfl

theorem tWBadoffset (k : Nat) (offset : Word) (value : Word) (width : BitVec 8) : Statement (.tWBadoffset k offset value width) := fun _ => rfl

theorem lRBadoffset (offset : Word) (width : BitVec 8) : Statement (.lRBadoffset offset width) := fun _ => rfl

theorem lWBadoffset (offset : Word) (value : Word) (width : BitVec 8) : Statement (.lWBadoffset offset value width) := fun _ => rfl

end Sys2Proof.Laws.EncodeTarget
end

