-- ==== Sys2Proof/Tests/Slice0.lean ====
section
/-!
SUPPORT. The model's own tests. Expected results are those of spec/95_test_vectors.md (the vector's name
stands in each docstring) or are read off the rule cited. `test_witness_…` shows values that meet the
hypotheses of the obligation it is named after.
-/

namespace Sys2Proof.Tests.Slice0

open Sys2Proof Sys2Proof.Machine

/-! ### Helpers -/

/-- The outcome is a next state of which `f` holds. -/
def nextSat (o : Result) (f : State → Bool) : Bool :=
  match o with
  | .next s => f s
  | .fault _ | .refused _ => false

/-- The outcome is the refusal `r`. -/
def refusedAs (o : Result) (r : Refusal) : Bool :=
  match o with
  | .refused r' => r' == r
  | .next _ | .fault _ => false

/-- The outcome is the fault `f`. -/
def faultAs (o : Result) (f : Fault) : Bool :=
  match o with
  | .fault f' => f' == f
  | .next _ | .refused _ => false

/-- A fresh timer of the default parameters (R47). -/
def fresh : Timer := Timer.fresh Params.default

/-- The reset state with timer 0 as given. -/
def onTimer (t : Timer) : State := State.reset.putTimer 0 t

/-- The reset state with the lit mask and the redraw flags as given. -/
def onLed (lit : BitVec 25) (redraw : Bool) : State :=
  State.reset.putLed { litMask := lit, redrawFront := redraw, redrawBack := redraw, diag := [] }

/-- `f` of timer 0. -/
def timer0 (f : Timer → Bool) (s : State) : Bool :=
  match s.timers[0]? with
  | some t => f t
  | none => false

/-- The operation leaves timer 0 as `f` says. -/
def leaves (i : Instr) (t : Timer) (f : Timer → Bool) : Bool :=
  nextSat (exec i (onTimer t)) (timer0 f)

/-- The operation on timer 0 returns the word `w` and changes nothing else. -/
def returns (i : Instr) (t : Timer) (w : Word) : Bool :=
  nextSat (exec i (onTimer t)) (fun s => s == (onTimer t).respond (.word w))

/-- A running timer of the 16-bit width with the given counter. -/
def runningAt (c : Word) : Timer := { fresh with running := true, liveCounter := c }

/-- A running COUNTER-mode timer with the given mask, limit and counter. -/
def countingAt (mask limit c : Word) : Timer :=
  { fresh with mode := .counter, running := true, latchedMask := mask, softwareLimit := limit,
               activeLimit := limit, liveCounter := c }

/-- The default parameters under `NARROW_ACCESS = as_word` (D4). -/
def narrow : Params := { Params.default with narrowAccess := .asWord }

/-- The default parameters with one unimplemented offset (R243). -/
def withUnimpl : Params := { Params.default with unimplOffsets := [0x100#32] }

/-- The reset state with a stream. -/
def streaming (rs : List Request) : State := { State.reset with stream := rs }

/-- A drive write of `v` changes nothing. -/
def ignores (v : Word) : Bool :=
  nextSat (exec (.wDrive v) (onLed 0x204002#25 false)) (fun s => s == onLed 0x204002#25 false)

/-! ### Decoding -/

/-- R81, R83: the selectors of START, STOP, LIMIT, CLEAR and SHUTDOWN, bit by bit: E, D, W, then OFF. -/
theorem test_decode_tasks_and_limit :
  decodeTableWord 16 0b001000000000000 = some (.wStart 0 0#32) ∧
  decodeTableWord 16 0b000000000000000 = some (.rStart 0) ∧
  decodeTableWord 16 0b001000000000100 = some (.wStop 0 0#32) ∧
  decodeTableWord 16 0b000000000000100 = some (.rStop 0) ∧
  decodeTableWord 16 0b001000000001000 = some (.wLimit 0 0#32) ∧
  decodeTableWord 16 0b000000000001000 = some (.rLimit 0) ∧
  decodeTableWord 16 0b001000000001100 = some (.wClear 0 0#32) ∧
  decodeTableWord 16 0b000000000001100 = some (.rClear 0) ∧
  decodeTableWord 16 0b001000000010000 = some (.wShutdown 0 0#32) ∧
  decodeTableWord 16 0b000000000010000 = some (.rShutdown 0) := by decide

/-- R81, R83: the selectors of INTENSET, INTENCLR, MODE, BITMODE and PRESCALER. -/
theorem test_decode_configuration :
  decodeTableWord 16 0b001001100000100 = some (.wIntenset 0 0#32) ∧
  decodeTableWord 16 0b000001100000100 = some (.rIntenset 0) ∧
  decodeTableWord 16 0b001001100001000 = some (.wIntenclr 0 0#32) ∧
  decodeTableWord 16 0b000001100001000 = some (.rIntenclr 0) ∧
  decodeTableWord 16 0b001010100000100 = some (.wMode 0 0#32) ∧
  decodeTableWord 16 0b000010100000100 = some (.rMode 0) ∧
  decodeTableWord 16 0b001010100001000 = some (.wBitmode 0 0#32) ∧
  decodeTableWord 16 0b000010100001000 = some (.rBitmode 0) ∧
  decodeTableWord 16 0b001010100010000 = some (.wPrescaler 0 0#32) ∧
  decodeTableWord 16 0b000010100010000 = some (.rPrescaler 0) := by decide

/-- R83: the selectors of CAPTURE[i] and CC[i], i = offset[3:2], at both ends of the index. -/
theorem test_decode_channels :
  decodeTableWord 16 0b001000001000000 = some (.wCapture 0 0 0#32) ∧
  decodeTableWord 16 0b000000001000000 = some (.rCapture 0 0) ∧
  decodeTableWord 16 0b001000001001100 = some (.wCapture 0 3 0#32) ∧
  decodeTableWord 16 0b000000001001100 = some (.rCapture 0 3) ∧
  decodeTableWord 16 0b001010101000000 = some (.wCc 0 0 0#32) ∧
  decodeTableWord 16 0b000010101000000 = some (.rCc 0 0) ∧
  decodeTableWord 16 0b001010101001100 = some (.wCc 0 3 0#32) ∧
  decodeTableWord 16 0b000010101001100 = some (.rCc 0 3) := by decide

/-- R81, R190: the drive word, and its neighbours in the LED window, which name no register (R199). -/
theorem test_decode_led :
  decodeTableWord 16 0b011000000000000 = some (.wDrive 0#32) ∧
  decodeTableWord 16 0b010000000000000 = some .rDrive ∧
  decodeTableWord 16 0b010000000000100 = some (.lRBadoffset 0x004#32 4#8) ∧
  decodeTableWord 16 0b011000000000100 = some (.lWBadoffset 0x004#32 0#32 4#8) := by decide

/-- R82: the host events of a timer and of the LED decoder. -/
theorem test_decode_events :
  decodeTableWord 16 0b100000000000000 = some (.tick 0) ∧
  decodeTableWord 16 0b100000000000001 = some (.tReset 0) ∧
  decodeTableWord 16 0b100000000000010 = some (.tSave 0) ∧
  decodeTableWord 16 0b100000000000011 = some (.tRestore 0 (Timer.fresh Params.default).record) ∧
  decodeTableWord 16 0b110000000000001 = some .lReset ∧
  decodeTableWord 16 0b110000000000010 = some .lSave ∧
  decodeTableWord 16 0b110000000000011 = some (.lRestore Led.fresh.record) ∧
  decodeTableWord 16 0b110000000000100 = some (.sinkAck false false) := by decide

/-- Vectors BO1, BO2, BO6, BO7 and a misaligned offset (R84, R86). -/
theorem test_decode_bad_offsets :
  decodeTableWord 16 0b000000100000000 = some (.tRBadoffset 0 0x100#32 4#8) ∧
  decodeTableWord 16 0b001000100000000 = some (.tWBadoffset 0 0x100#32 0#32 4#8) ∧
  decodeTableWord 16 0b000010101010000 = some (.tRBadoffset 0 0x550#32 4#8) ∧
  decodeTableWord 16 0b001000001010000 = some (.tWBadoffset 0 0x050#32 0#32 4#8) ∧
  decodeTableWord 16 0b001010100000110 = some (.tWBadoffset 0 0x506#32 0#32 4#8) := by decide

/-- Vector HI9 (R82, R247), an event with its W bit set, and a number that is no selector. -/
theorem test_decode_refused_words :
  decodeTableWord 16 0b100000000000101 = none ∧
  decodeTableWord 16 0b100000000000100 = none ∧
  decodeTableWord 16 0b110000000000000 = none ∧
  decodeTableWord 16 0b101000000000000 = none ∧
  decodeTableWord 16 0x8000 = none := by decide

/-- R80, R84: the instance, the value and the width are operands beside the selector; vectors BO3, BO8. -/
theorem test_decode_operands :
    decode Params.default (.bus (.timer 2) .write 0x544#32 4#8 0xDEAD#32) = .ok (.wCc 2 1 0xDEAD#32) ∧
    decode Params.default (.bus (.timer 1) .write 0x506#32 4#8 1#32) =
      .ok (.tWBadoffset 1 0x506#32 1#32 4#8) ∧
    decode Params.default (.bus (.timer 0) .read 0x1000#32 4#8 0#32) =
      .ok (.tRBadoffset 0 0x1000#32 4#8) ∧
    decode Params.default (.bus (.timer 3) .read 0#32 4#8 0#32) = .error (.noSuchTimer 3) := by decide

/-- Vectors BO4, BO5, the same access under `as_word`, and narrow accesses to unmapped offsets under `as_word`,
performed as 32-bit ones (R64, R84). -/
theorem test_decode_widths :
    decode Params.default (.bus (.timer 0) .read 0x504#32 2#8 0#32) = .error (.narrowAccess 2#8) ∧
    decode Params.default (.bus (.timer 0) .read 0x504#32 3#8 0#32) = .error (.badWidth 3#8) ∧
    decode narrow (.bus (.timer 0) .read 0x504#32 2#8 0#32) = .ok (.rMode 0) ∧
    decode narrow (.bus (.timer 0) .read 0x504#32 3#8 0#32) = .error (.badWidth 3#8) ∧
    decode narrow (.bus (.timer 0) .read 0x100#32 2#8 0#32) = .ok (.tRBadoffset 0 0x100#32 4#8) ∧
    decode narrow (.bus .led .write 0x004#32 1#8 5#32) = .ok (.lWBadoffset 0x004#32 5#32 4#8) := by decide

/-- R82: a RESTORE or an acknowledgement without its operand names no operation. -/
theorem test_decode_wrong_operand :
    decode Params.default (.event (.timer 0) 3#13 (.ledRecord Led.fresh.record)) =
      .error (.wrongOperand 3#13) ∧
    decode Params.default (.event .led 4#13 .none) = .error (.wrongOperand 4#13) := by decide

/-- R81, R90: no selector is of two of the 34 rows that are not fallback rows. -/
theorem test_table_rows_disjoint :
    (opcodeRowsTimerTasks ++ opcodeRowsTimerConfig ++ opcodeRowsLedAndEvents).Pairwise
      (fun a b => (a.pattern ^^^ b.pattern) &&& a.mask &&& b.mask ≠ 0#15) := by decide

/-- Every row's pattern lies under its mask. -/
theorem test_table_patterns_under_masks :
    ∀ row ∈ opcodeTable, row.pattern &&& row.mask = row.pattern := by decide

/-- The well-formedness smoke test: each check refuses an ill-formed operation and passes its well-formed
neighbour. -/
theorem test_wf_smoke :
    (Instr.wStart 3 0#32).wf Params.default = false ∧ (Instr.wStart 2 0#32).wf Params.default = true ∧
    (Instr.tRBadoffset 0 0x504#32 4#8).wf Params.default = false ∧
    (Instr.tRBadoffset 0 0x506#32 4#8).wf Params.default = true ∧
    (Instr.tWBadoffset 0 0x100#32 0#32 2#8).wf Params.default = false ∧
    (Instr.tWBadoffset 0 0x100#32 0#32 2#8).wf narrow = false ∧
    (Instr.tWBadoffset 0 0x100#32 0#32 4#8).wf narrow = true ∧
    (Instr.lRBadoffset 0x000#32 4#8).wf Params.default = false ∧
    (Instr.lRBadoffset 0x004#32 4#8).wf Params.default = true ∧
    (Instr.lWBadoffset 0x004#32 0#32 3#8).wf narrow = false := by decide

/-! ### Parameters -/

/-- The defaults meet R83 and R194; a map that gives two registers one offset, or an LED map that misses
a bit, does not. -/
theorem test_params_wf :
    Params.default.wf = true ∧
    ({ Params.default with regMap := { RegMap.default with stop := 0x000#32 } } : Params).wf = false ∧
    ({ Params.default with ledMap := [] } : Params).wf = false ∧
    ({ Params.default with intenShift := 29 } : Params).wf = false := by decide

/-- R195: the clear masks of the default map. -/
theorem test_row_clear :
    Params.default.rowClear 0 = 0x0F8815#25 ∧ Params.default.rowClear 1 = 0xA0540A#25 ∧
    Params.default.rowClear 2 = 0x15023E0#25 := by decide

/-- R61: an address in TIMER1's window reaches it with its offset; an address outside every window reaches
nothing. -/
theorem test_route :
    Params.default.route 0x40009504#32 = some (.timer 1, 0x504#32) ∧
    Params.default.route 0x4000B000#32 = none ∧
    ({ Params.default with ledBase := some 0x50000000#32 } : Params).route 0x50000000#32 =
      some (.led, 0#32) := by decide

/-- R62: byte 0 is bits 7:0 under `little` and bits 31:24 under `big`. -/
theorem test_byte_view :
    byteView .little 0x12345678#32 0 = 0x78#8 ∧ byteView .big 0x12345678#32 0 = 0x12#8 := by decide

/-! ### Timer tasks -/

/-- Vectors TT4 and P5 step 6: a Start in Running latches the width and the prescaler and masks the counter;
TC4: prescaler 10 latches as 9. -/
theorem test_start_latches :
    leaves (.wStart 0 1#32) { runningAt 0x1235#32 with bitModeCode := 1#2, prescaler := 0#4 }
      (fun t => t == { runningAt 0x35#32 with bitModeCode := 1#2, prescaler := 0#4,
                                              latchedMask := 0xFF#32, latchedPrescaler := 0#4 }) ∧
    leaves (.wStart 0 0#32) { fresh with prescaler := 10#4 }
      (fun t => t.running && t.latchedPrescaler == 9#4) := by decide

/-- Vector TT5: a Start in Paused latches nothing. -/
theorem test_start_resumes :
    leaves (.wStart 0 1#32)
      { fresh with pulsedStop := true, liveCounter := 300#32, bitModeCode := 1#2 }
      (fun t => t == { runningAt 300#32 with bitModeCode := 1#2 }) := by decide

/-- Vectors X4 step 2 and TT7. -/
theorem test_stop :
    leaves (.wStop 0 1#32) (runningAt 7#32)
      (fun t => t == { fresh with pulsedStop := true, liveCounter := 7#32 }) ∧
    leaves (.wStop 0 1#32) fresh (fun t => t == fresh) := by decide

/-- Vectors TT9 and TT11: Clear keeps the run state. -/
theorem test_clear :
    leaves (.wClear 0 1#32) { fresh with pulsedStop := true, liveCounter := 9#32 }
      (fun t => t == { fresh with pulsedStop := true }) ∧
    leaves (.wClear 0 1#32) (runningAt 9#32) (fun t => t == runningAt 0#32) := by decide

/-- Vector TT12: Shutdown keeps the line. -/
theorem test_shutdown :
    leaves (.wShutdown 0 1#32) { runningAt 5#32 with interruptLine := true }
      (fun t => t == { fresh with interruptLine := true }) := by decide

/-- Vector X5 step 2: the written value is ignored and CC[1] is untouched. -/
theorem test_capture_write :
    leaves (.wCapture 0 1 0xDEAD#32) (runningAt 42#32)
      (fun t => t.captureChannel == { at0 := 0#32, at1 := 42#32, at2 := 0#32, at3 := 0#32 } &&
        t.compareChannel == Quad.all 0#32 && t.liveCounter == 42#32) := by decide

/-- Vectors X5 steps 3 and 4: capture and compare are separate. -/
theorem test_capture_read :
    let t := { runningAt 43#32 with
      captureChannel := { at0 := 1#32, at1 := 42#32, at2 := 2#32, at3 := 3#32 } }
    returns (.rCapture 0 1) t 42#32 ∧ returns (.rCc 0 1) t 0#32 := by decide

/-- Vector TT15. -/
theorem test_task_reads :
    returns (.rStart 0) (runningAt 5#32) 0#32 ∧ returns (.rStop 0) (runningAt 5#32) 0#32 ∧
    returns (.rClear 0) (runningAt 5#32) 0#32 ∧ returns (.rShutdown 0) (runningAt 5#32) 0#32 := by decide

/-! ### Timer registers -/

/-- Vectors TC1 and TC2: bit 0 alone selects, and the write reloads. -/
theorem test_mode_write :
    leaves (.wMode 0 0xFFFFFFFE#32)
      { fresh with mode := .counter, softwareLimit := 7#32, activeLimit := 7#32 }
      (fun t => t == { fresh with softwareLimit := 7#32 }) ∧
    leaves (.wMode 0 3#32) { fresh with softwareLimit := 7#32 }
      (fun t => t.mode == .counter && t.activeLimit == 7#32) := by decide

/-- Vector X7: MODE reads 1 in COUNTER mode. -/
theorem test_mode_read :
    returns (.rMode 0) (countingAt 0xFFFF#32 0#32 3#32) 1#32 ∧ returns (.rMode 0) fresh 0#32 := by decide

/-- Vectors TC3 and TT3: the code is stored, the latched mask is not touched. -/
theorem test_bitmode :
    leaves (.wBitmode 0 7#32) (runningAt 0x1234#32)
      (fun t => t == { runningAt 0x1234#32 with bitModeCode := 3#2 }) ∧
    returns (.rBitmode 0) { fresh with bitModeCode := 3#2 } 3#32 := by decide

/-- Vectors TC4 and TC5: four bits are stored and read back as they are. -/
theorem test_prescaler :
    leaves (.wPrescaler 0 0xFFFFFFF3#32) fresh (fun t => t == { fresh with prescaler := 3#4 }) ∧
    returns (.rPrescaler 0) { fresh with prescaler := 10#4 } 10#32 := by decide

/-- Vectors TC6 and TC7. -/
theorem test_limit_write :
    leaves (.wLimit 0 10#32) fresh (fun t => t == fresh) ∧
    leaves (.wLimit 0 0x100#32) { fresh with mode := .counter }
      (fun t => t.softwareLimit == 0x100#32 && t.activeLimit == 0x100#32) := by decide

/-- R148: LIMIT reads the stored limit in TIMER mode as well. -/
theorem test_limit_read :
    returns (.rLimit 0) { fresh with softwareLimit := 10#32 } 10#32 := by decide

/-- Vector TC8: the target is not masked. -/
theorem test_compare :
    leaves (.wCc 0 0 0xFFFFFFFF#32) fresh (fun t => t.compareChannel.at0 == 0xFFFFFFFF#32) ∧
    returns (.rCc 0 0)
      { fresh with compareChannel := { at0 := 0xFFFFFFFF#32, at1 := 1#32, at2 := 2#32, at3 := 3#32 } }
      0xFFFFFFFF#32 := by decide

/-- Vectors TC9, TC10 and TC12: only bits 19:16 name channels. -/
theorem test_intenset :
    leaves (.wIntenset 0 0x0000FFFF#32) fresh (fun t => t.interruptEnableMask == 0#4) ∧
    leaves (.wIntenset 0 0x000F0000#32) fresh (fun t => t.interruptEnableMask == 0b1111#4) ∧
    leaves (.wIntenset 0 0xFFF00000#32) fresh (fun t => t.interruptEnableMask == 0#4) := by decide

/-- Vectors TC11 and TC13: the named bits are cleared and the line keeps its level. -/
theorem test_intenclr :
    leaves (.wIntenclr 0 0x00050000#32)
      { fresh with interruptEnableMask := 0b1111#4, interruptLine := true }
      (fun t => t.interruptEnableMask == 0b1010#4 && t.interruptLine) := by decide

/-- Vectors TC10 and TC11: both registers read the mask at bit 16. -/
theorem test_inten_reads :
    returns (.rIntenset 0) { fresh with interruptEnableMask := 0b1111#4 } 0x000F0000#32 ∧
    returns (.rIntenclr 0) { fresh with interruptEnableMask := 0b1010#4 } 0x000A0000#32 := by decide

/-! ### Ticks -/

/-- COUNTER mode: X2 (10th and 11th tick), TK6, TK7, TK18 and TK20 (channels ignored). -/
theorem test_tick_counter_mode :
    leaves (.tick 0) (countingAt 0xFFFF#32 10#32 9#32) (fun t => t.liveCounter == 0#32 && t.interruptLine) ∧
    leaves (.tick 0) { countingAt 0xFFFF#32 10#32 0#32 with interruptLine := true }
      (fun t => t.liveCounter == 1#32 && !t.interruptLine) ∧
    leaves (.tick 0) (countingAt 0xFF#32 0#32 0xFF#32) (fun t => t.liveCounter == 0#32 && t.interruptLine) ∧
    leaves (.tick 0) (countingAt 0xFF#32 0x100#32 0xFF#32)
      (fun t => t.liveCounter == 0#32 && !t.interruptLine) ∧
    leaves (.tick 0) (countingAt 0xFFFF#32 21#32 20#32) (fun t => t.liveCounter == 0#32 && t.interruptLine) ∧
    leaves (.tick 0)
      { countingAt 0xFFFF#32 5#32 0#32 with
        compareChannel := Quad.all 1#32, interruptEnableMask := 1#4 }
      (fun t => t.liveCounter == 1#32 && !t.interruptLine && t.compareEvents == Quad.all 0#32) := by decide

/-- TIMER mode: TK4, TK11, TK12, TK14, TK16; and TK19, a tick of a timer that is not running. -/
theorem test_tick_timer_mode :
    leaves (.tick 0) { runningAt 0xFFFFFFFF#32 with latchedMask := 0xFFFFFFFF#32 }
      (fun t => t.liveCounter == 0#32) ∧
    leaves (.tick 0)
      { runningAt 1#32 with
        compareChannel := { at0 := 2#32, at1 := 5#32, at2 := 0#32, at3 := 0#32 }
        interruptEnableMask := 0b0011#4 }
      (fun t => t.liveCounter == 2#32 && !t.interruptLine && t.compareEvents.at0 == 1#32 &&
        t.compareEvents.at1 == 0#32) ∧
    leaves (.tick 0)
      { runningAt 4#32 with
        compareChannel := { at0 := 2#32, at1 := 5#32, at2 := 0#32, at3 := 0#32 }
        interruptEnableMask := 0b0011#4 }
      (fun t => t.liveCounter == 5#32 && t.interruptLine && t.compareEvents.at1 == 1#32) ∧
    leaves (.tick 0) { runningAt 3#32 with interruptLine := true } (fun t => t.interruptLine) ∧
    leaves (.tick 0)
      { runningAt 0#32 with
        latchedMask := 0xFF#32, compareChannel := Quad.all 1#32, interruptEnableMask := 1#4
        compareEvents := Quad.all 0xFFFFFFFF#32 }
      (fun t => t.liveCounter == 1#32 && t.interruptLine && t.compareEvents.at0 == 0#32 &&
        t.compareEvents.at1 == 0xFFFFFFFF#32) ∧
    faultAs (exec (.tick 0) State.reset) (.noTickStep 0) ∧
    faultAs (exec (.tick 0) (onTimer { fresh with pulsedStop := true })) (.noTickStep 0) := by decide

/-- Vectors TK21 and TK22: the tick period. -/
theorem test_tick_period :
    Timer.tickPeriod Params.default { fresh with latchedPrescaler := 0#4 } = (1, 16000000) ∧
    Timer.tickPeriod Params.default { fresh with latchedPrescaler := 9#4 } = (512, 16000000) := by decide

/-! ### The LED decoder -/

/-- Vectors LD1 to LD3, LD5, X6 step 3 as LD10, and LD11; both redraw flags are set. -/
theorem test_drive_write :
    nextSat (exec (.wDrive 0x2000#32) (onLed 0#25 false))
      (fun s => s.led.litMask == 0x0F8815#25 && s.led.redrawFront && s.led.redrawBack) ∧
    nextSat (exec (.wDrive 0x4000#32) (onLed 0#25 false)) (fun s => s.led.litMask == 0xA0540A#25) ∧
    nextSat (exec (.wDrive 0x8000#32) (onLed 0#25 false)) (fun s => s.led.litMask == 0x15023E0#25) ∧
    nextSat (exec (.wDrive 0x3FF0#32) (onLed 0x1FFFFFF#25 false))
      (fun s => s.led.litMask == 0x1F077EA#25) ∧
    nextSat (exec (.wDrive 0xFFFF5B6F#32) (onLed 0#25 false)) (fun s => s.led.litMask == 0x204002#25) ∧
    nextSat (exec (.wDrive 0x47F0#32) (onLed 0#25 false))
      (fun s => s.led.litMask == 0#25 && s.led.redrawFront) := by decide

/-- Vectors X6 step 5 and LD6 to LD9: an invalid scan changes nothing. -/
theorem test_drive_invalid :
    ignores 0x0000#32 = true ∧ ignores 0x6000#32 = true ∧ ignores 0xA000#32 = true ∧
    ignores 0xC000#32 = true ∧ ignores 0xE000#32 = true := by decide

/-- Vector LD12. -/
theorem test_drive_read :
    nextSat (exec .rDrive (onLed 0x204002#25 false))
      (fun s => s == (onLed 0x204002#25 true).respond (.word 0x204002#32)) := by decide

/-- Vectors LD13 and LD14. -/
theorem test_sink_ack :
    nextSat (exec (.sinkAck true false) (onLed 0x1F#25 true))
      (fun s => !s.led.redrawFront && s.led.redrawBack && s.led.litMask == 0x1F#25) ∧
    nextSat (exec (.sinkAck false true) (onLed 0x1F#25 true))
      (fun s => s.led.redrawFront && !s.led.redrawBack) := by decide

/-- Vector HI2. -/
theorem test_led_reset :
    nextSat (exec .lReset (onLed 0x1FFFFFF#25 false)) (fun s => s == onLed 0#25 true) := by decide

/-- R225: the example of the rule, and vector HI8. -/
theorem test_led_restore :
    nextSat (exec (.lRestore { litMask := 0x1F#32, redrawFront := false, redrawBack := false })
      (onLed 0#25 false)) (fun s => s == onLed 0x1F#25 true) ∧
    refusedAs (exec (.lRestore { litMask := 0x2000000#32, redrawFront := true, redrawBack := true })
      State.reset) .badRecord := by decide

/-- R223: the LED record. -/
theorem test_led_save :
    nextSat (exec .lSave (onLed 0x1F#25 false)) (fun s => s == (onLed 0x1F#25 false).respond
      (.ledRecord { litMask := 0x1F#32, redrawFront := false, redrawBack := false })) := by decide

/-! ### Timer events -/

/-- Vector HI1, with a diagnostic kept. -/
theorem test_timer_reset :
    leaves (.tReset 0)
      { runningAt 3#32 with
        prescaler := 0#4, interruptLine := true, interruptEnableMask := 1#4
        compareChannel := Quad.all 3#32, diag := [.badOffsetRead (.timer 0) 0x100#32 4#8] }
      (fun t => t == { fresh with diag := [.badOffsetRead (.timer 0) 0x100#32 4#8] }) := by decide

/-- Vector X8 step 2: what SAVE returns. -/
theorem test_timer_save :
    nextSat (exec (.tSave 0) (onTimer { runningAt 2#32 with
        interruptEnableMask := 1#4
        compareChannel := { at0 := 3#32, at1 := 0#32, at2 := 0#32, at3 := 0#32 } }))
      (fun s => s.response == .timerRecord { fresh.record with
        running := true, liveCounter := 2#32, interruptEnableMask := 1, latchedMask := 0xFFFF#32
        compareChannel := { at0 := 3#32, at1 := 0#32, at2 := 0#32, at3 := 0#32 }
        latchedPrescaler := 4 }) := by decide

/-- Vector HI7: the line is restored, and no tick is performed. -/
theorem test_timer_restore :
    leaves (.tRestore 0 { fresh.record with running := true, liveCounter := 5#32, interruptLine := true })
      fresh (fun t => t == { runningAt 5#32 with interruptLine := true }) := by decide

/-- Vectors HI4, HI5, HI6 and HI10, and one record for each of the other bounds of R224. -/
theorem test_timer_restore_refused :
    ∀ rec ∈ ([{ fresh.record with running := true, pulsedStop := true },
        { fresh.record with latchedMask := 0x0FFF#32 },
        { fresh.record with latchedMask := 0xFF#32, liveCounter := 0x100#32 },
        { fresh.record with mode := .counter, softwareLimit := 10#32 },
        { fresh.record with latchedPrescaler := 10 }, { fresh.record with prescaler := 16 },
        { fresh.record with bitModeCode := 4 }, { fresh.record with interruptEnableMask := 16 }] :
          List TimerRecord),
      refusedAs (exec (.tRestore 0 rec) State.reset) .badRecord := by decide

/-! ### Unmapped offsets -/

/-- Vectors BO1 and BO2, with the codes of R241. -/
theorem test_timer_bad_offset :
    leaves (.tRBadoffset 0 0x100#32 4#8) fresh
      (fun t => t == { fresh with diag := [.badOffsetRead (.timer 0) 0x100#32 4#8] }) ∧
    leaves (.tWBadoffset 0 0x100#32 5#32 4#8) fresh (fun t => t.diag.map Diag.code == [2]) := by decide

/-- R243: an offset of `UNIMPL_OFFSETS` logs its own codes, 3 and 4. -/
theorem test_timer_unimplemented :
    nextSat (exec (.tRBadoffset 0 0x100#32 4#8) (State.init withUnimpl))
      (fun s => timer0 (fun t => t.diag.map Diag.code == [3]) s && s.response == .word 0#32) ∧
    nextSat (exec (.tWBadoffset 0 0x100#32 5#32 4#8) (State.init withUnimpl))
      (timer0 (fun t => t.diag.map Diag.code == [4])) := by decide

/-- Vectors LD15 and LD16. -/
theorem test_led_bad_offset :
    nextSat (exec (.lRBadoffset 0x004#32 4#8) (onLed 0x204002#25 false))
      (fun s => s.response == .word 0#32 && !s.led.redrawFront && s.led.litMask == 0x204002#25 &&
        s.led.diag.map Diag.code == [1]) ∧
    nextSat (exec (.lWBadoffset 0x004#32 0x2000#32 4#8) (onLed 0x204002#25 false))
      (fun s => !s.led.redrawBack && s.led.litMask == 0x204002#25 && s.led.diag.map Diag.code == [2]) := by
  decide

/-! ### Reset and the step -/

/-- R47 under the defaults: TIMER, 16 bits, prescaler 4, Idle, line low; the LED decoder unlit, both
redraws pending; no interrupt output raised. -/
theorem test_reset :
    State.reset.timers.length = 3 ∧ fresh.latchedMask = 0xFFFF#32 ∧ fresh.prescaler = 4#4 ∧
    fresh.latchedPrescaler = 4#4 ∧ fresh.runState = .idle ∧ State.reset.led = (onLed 0#25 true).led ∧
    State.reset.interruptOutputs = [false, false, false] := by decide

/-- The first step after reset runs the operation placed: W_START starts timer 0 and the position
moves past it. -/
theorem test_step_runs_placed_word :
    nextSat (step (State.reset.withFetchWord 16 0x1000))
      (fun s => timer0 (fun t => t.running) s && s.pos == 1) := by decide

/-- A word R82 does not list is refused; vector HI9. -/
theorem test_step_refuses_unknown_event :
    refusedAs (step (State.reset.withFetchWord 16 0x4005)) (.unknownEvent (.timer 0) 0x5#13) := by decide

/-- A stream of two operations for two instances: the first step performs the first. -/
theorem test_step_reads_stream :
    nextSat (step (streaming [.bus (.timer 2) .write 0x510#32 4#8 7#32,
        .bus (.timer 0) .write 0x000#32 4#8 1#32]))
      (fun s => s.pos == 1 && s.timers[2]? == some { fresh with prescaler := 7#4 } &&
        s.timers[0]? == some fresh) := by decide

/-! ### Witnesses: values that meet the hypotheses of the obligations

Each theorem is named after its obligation. The state is the reset state or one with a single timer or the
LED decoder replaced. -/

/-- A register, a channel register, a drive word, events and the fallback forms. -/
theorem test_witness_DecodeOfEncode :
    Params.default.wf = true ∧
    ∀ i ∈ ([.wStart 0 1#32, .rCc 2 3, .wDrive 0x2000#32, .tick 2, .tRestore 1 fresh.record,
        .tRBadoffset 2 0xFFFFFFFF#32 4#8, .lWBadoffset 0x004#32 5#32 4#8] : List Instr),
      i.wf Params.default = true := by decide

theorem test_witness_TableDecoderAgreesWithDecode :
    (Operands.blank Params.default).k < Params.default.nTimers ∧
    (Operands.blank Params.default).width = 4#8 := by decide

theorem test_witness_EncodedSelectorIsInItsRow :
    (Instr.wCapture 2 3 0#32).wf Params.default = true ∧
    (Instr.tWBadoffset 0 0xFFFFFFFD#32 0#32 4#8).wf Params.default = true := by decide

/-- Widths 0, 3, 5 and 255 for the first clause; 1 and 2 under `refuse` for the second; 1 and 2 under
`as_word`, for a timer and the LED decoder, on offsets that name a register and on one that does not, for the
third. -/
theorem test_witness_AccessWidths :
    Params.default.hasDev (.timer 2) = true ∧ Params.default.hasDev .led = true ∧
    (∀ w ∈ ([0#8, 3#8, 5#8, 255#8] : List (BitVec 8)), w ≠ 1#8 ∧ w ≠ 2#8 ∧ w ≠ 4#8) ∧
    Params.default.narrowAccess = .refuse ∧
    narrow.hasDev (.timer 2) = true ∧ narrow.hasDev .led = true ∧ narrow.narrowAccess = .asWord ∧
    narrow.timerReg 0x54C#32 ≠ none ∧ narrow.isDrive 0x000#32 = true ∧
    narrow.timerReg 0x100#32 = none ∧ narrow.isDrive 0x004#32 = false := by decide

/-- The first offset outside the window, an odd one, an unnamed one; for a timer and for the LED decoder. -/
theorem test_witness_ReservedOffsetsDecodeToFallback :
    Params.default.widthAllowed 4#8 = true ∧ narrow.widthAllowed 1#8 = true ∧ 2 < Params.default.nTimers ∧
    Params.default.windowSize ≤ (0x1000#32).toNat ∧ (0xFFF#32).toNat % 4 ≠ 0 ∧
    (∀ r ∈ TimerReg.list, Params.default.offsetOf r ≠ 0x550#32) ∧
    0x004#32 ≠ Params.default.ledDriveOffset := by decide

/-- The registers the previous witness runs through are all of them. -/
theorem test_timer_reg_list (r : TimerReg) : r ∈ TimerReg.list := by
  cases r with
  | capture i => revert i; decide
  | cc i => revert i; decide
  | _ => decide

/-- The codes next to the listed ones: 4 for a timer, 0 and 5 for the LED decoder. -/
theorem test_witness_HostEventCodes :
    2 < Params.default.nTimers ∧ 3#13 < 4#13 ∧ 4#13 < 5#13 ∧
    decode Params.default (.event (.timer 2) 4#13 .none) = .error (.unknownEvent (.timer 2) 4#13) ∧
    decode Params.default (.event .led 0#13 .none) = .error (.unknownEvent .led 0#13) ∧
    decode Params.default (.event .led 5#13 .none) = .error (.unknownEvent .led 5#13) := by decide

theorem test_witness_StepRunsDecodedOperation :
    (streaming [.bus .led .write 0#32 4#8 0x2000#32]).stream[(0 : Nat)]? =
      some (.bus .led .write 0#32 4#8 0x2000#32) ∧
    decode Params.default (.bus .led .write 0#32 4#8 0x2000#32) = .ok (.wDrive 0x2000#32) := by decide

/-- No operation; an image load; a request that is none. -/
theorem test_witness_StepWithoutOperation :
    State.reset.stream.length ≤ State.reset.pos ∧
    (streaming [.imageLoad]).stream[(0 : Nat)]? = some .imageLoad ∧
    decode Params.default (.bus .led .read 0#32 0#8 0#32) = .error (.badWidth 0#8) := by decide

/-- A step that runs an operation from a state with the invariants. -/
theorem test_witness_StepKeepsInvariants :
    (State.reset.withFetchWord 16 0x1000).Inv ∧
    nextSat (step (State.reset.withFetchWord 16 0x1000)) (fun _ => true) = true := by decide

theorem test_witness_OperationsKeepIdleCounterZero :
    (onTimer (runningAt 9#32)).IdleZero ∧ (Instr.wShutdown 0 1#32).keepsIdleZero = true ∧
    nextSat (exec (.wShutdown 0 1#32) (onTimer (runningAt 9#32))) (fun _ => true) = true := by decide

theorem test_witness_OnlyTheTargetDeviceChanges :
    nextSat (exec (.wStart 2 1#32) State.reset) (fun _ => true) = true ∧
    nextSat (exec (.wDrive 0x2000#32) State.reset) (fun _ => true) = true := by decide

/-- Two states alike in timer 0 only, and two alike in the LED decoder only. -/
theorem test_witness_OutcomeDependsOnTargetDeviceOnly :
    State.reset.params = (onLed 5#25 false).params ∧
    nextSat (exec (.wStart 0 1#32) State.reset) (fun _ => true) = true ∧
    (Instr.wStart 0 1#32).target = .timer 0 ∧ State.reset.timers[0]? = (onLed 5#25 false).timers[0]? ∧
    State.reset.params = (onTimer (runningAt 5#32)).params ∧
    nextSat (exec .rDrive State.reset) (fun _ => true) = true ∧
    Instr.rDrive.target = .led ∧ State.reset.led = (onTimer (runningAt 5#32)).led := by decide

/-- A tick of a running timer, a restore of a well-formed record of each device, a fallback operation. -/
theorem test_witness_WellFormedOperationsComplete :
    (onTimer (runningAt 5#32)).Inv ∧ (Instr.tick 0).wf Params.default = true ∧
    (onTimer (runningAt 5#32)).timers[0]? = some (runningAt 5#32) ∧ (runningAt 5#32).running = true ∧
    (Instr.tRestore 0 fresh.record).wf Params.default = true ∧ timerRecordOk fresh.record = true ∧
    (Instr.lRestore Led.fresh.record).wf Params.default = true ∧ ledRecordOk Led.fresh.record = true ∧
    (Instr.tRBadoffset 0 0x100#32 4#8).wf Params.default = true := by decide

/-- Both refusals of an operation. -/
theorem test_witness_OperationRefusals :
    refusedAs (exec (.lRestore { litMask := 0x2000000#32, redrawFront := true, redrawBack := true })
      State.reset) .badRecord = true ∧
    refusedAs (exec (.wStart 3 1#32) State.reset) (.noSuchTimer 3) = true := by decide

/-- A tick that raises the line. -/
theorem test_witness_LineChangesOnlyAtTickResetRestore :
    (onTimer (countingAt 0xFFFF#32 10#32 9#32)).timers[0]? = some (countingAt 0xFFFF#32 10#32 9#32) ∧
    leaves (.tick 0) (countingAt 0xFFFF#32 10#32 9#32) (fun t => t.interruptLine) = true ∧
    (countingAt 0xFFFF#32 10#32 9#32).interruptLine = false := by decide

/-- A reloading Start that changes the counter. -/
theorem test_witness_CounterWriters :
    (onTimer { runningAt 0x1235#32 with bitModeCode := 1#2 }).timers[0]? =
      some { runningAt 0x1235#32 with bitModeCode := 1#2 } ∧
    leaves (.wStart 0 1#32) { runningAt 0x1235#32 with bitModeCode := 1#2 }
      (fun t => t.liveCounter != 0x1235#32) = true := by decide

/-- A reloading Start that changes both latched fields. -/
theorem test_witness_LatchedFieldsWriters :
    (onTimer { fresh with bitModeCode := 1#2, prescaler := 0#4 }).timers[0]? =
      some { fresh with bitModeCode := 1#2, prescaler := 0#4 } ∧
    leaves (.wStart 0 1#32) { fresh with bitModeCode := 1#2, prescaler := 0#4 }
      (fun t => t.latchedMask != fresh.latchedMask && t.latchedPrescaler != fresh.latchedPrescaler) =
      true := by decide

/-- A fallback operation of each device that makes its list grow. -/
theorem test_witness_DiagIsAppendOnly :
    State.reset.timers[0]? = some fresh ∧
    nextSat (exec (.tRBadoffset 0 0x100#32 4#8) State.reset) (timer0 (fun t => t.diag != fresh.diag)) = true ∧
    nextSat (exec (.lRBadoffset 0x004#32 4#8) State.reset)
      (fun s => s.led.diag != State.reset.led.diag) = true := by decide

theorem test_witness_ReadsHaveNoSideEffect :
    (.rCc 2 3 : Instr) ∈ ([.rStart 2, .rStop 2, .rLimit 2, .rClear 2, .rShutdown 2, .rIntenset 2,
      .rIntenclr 2, .rMode 2, .rBitmode 2, .rPrescaler 2, .rCapture 2 3, .rCc 2 3, .tSave 2] : List Instr) ∧
    2 < State.reset.timers.length := by decide

/-- The premises with an operation of each clause: START, STOP in each run state, SHUTDOWN and RESET, TICK,
and an operation the last clause leaves. -/
theorem test_witness_RunStateTransitions :
    (onTimer (runningAt 5#32)).timers[0]? = some (runningAt 5#32) ∧
    ¬((runningAt 5#32).running = true ∧ (runningAt 5#32).pulsedStop = true) ∧
    leaves (.wStart 0 1#32) fresh (fun t => t.runState == .running) = true ∧
    leaves (.wStop 0 1#32) fresh (fun t => t.runState == .idle) = true ∧
    leaves (.wStop 0 1#32) (runningAt 5#32) (fun t => t.runState == .paused) = true ∧
    leaves (.wStop 0 1#32) { fresh with pulsedStop := true } (fun t => t.runState == .paused) = true ∧
    leaves (.wShutdown 0 1#32) (runningAt 5#32) (fun t => t.runState == .idle) = true ∧
    leaves (.tReset 0) (runningAt 5#32) (fun t => t.runState == .idle) = true ∧
    leaves (.tick 0) (runningAt 5#32) (fun t => t.runState == .running) = true ∧
    leaves (.wClear 0 1#32) { fresh with pulsedStop := true } (fun t => t.runState == .paused) = true := by
  decide

theorem test_witness_StartLatchesAndReloads :
    (onTimer (runningAt 0x1235#32)).timers[0]? = some (runningAt 0x1235#32) ∧
    (runningAt 0x1235#32).pulsedStop = false := by decide

theorem test_witness_StartResumesWithoutLatch :
    (onTimer { fresh with pulsedStop := true }).timers[0]? = some { fresh with pulsedStop := true } ∧
    ({ fresh with pulsedStop := true } : Timer).pulsedStop = true := by decide

theorem test_witness_StopPausesOrChangesNothing :
    (onTimer (runningAt 7#32)).timers[0]? = some (runningAt 7#32) ∧ (runningAt 7#32).running = true ∧
    State.reset.timers[2]? = some fresh ∧ fresh.running = false := by decide

theorem test_witness_ClearZeroesTheCounter :
    (onTimer (runningAt 9#32)).timers[0]? = some (runningAt 9#32) := by decide

theorem test_witness_ShutdownGoesIdle :
    (onTimer (runningAt 5#32)).timers[0]? = some (runningAt 5#32) := by decide

theorem test_witness_CaptureWriteSnapshots :
    (onTimer (runningAt 42#32)).timers[0]? = some (runningAt 42#32) := by decide

theorem test_witness_TaskRegistersReadZero :
    (.rShutdown 2 : Instr) ∈ ([.rStart 2, .rStop 2, .rClear 2, .rShutdown 2] : List Instr) ∧
    2 < State.reset.timers.length := by decide

theorem test_witness_RegisterReads :
    (onTimer (countingAt 0xFFFF#32 10#32 9#32)).timers[0]? = some (countingAt 0xFFFF#32 10#32 9#32) := by
  decide

theorem test_witness_InterruptEnableReads :
    (onTimer { fresh with interruptEnableMask := 0b1010#4 }).timers[0]? =
      some { fresh with interruptEnableMask := 0b1010#4 } := by decide

theorem test_witness_ModeWriteReloads : State.reset.timers[2]? = some fresh := by decide

theorem test_witness_BitmodeAndPrescalerWrites : State.reset.timers[2]? = some fresh := by decide

theorem test_witness_LimitWrite :
    (onTimer (countingAt 0xFFFF#32 10#32 9#32)).timers[0]? = some (countingAt 0xFFFF#32 10#32 9#32) ∧
    (countingAt 0xFFFF#32 10#32 9#32).mode = .counter ∧
    State.reset.timers[2]? = some fresh ∧ fresh.mode = .timer := by decide

theorem test_witness_CompareWrite : State.reset.timers[2]? = some fresh := by decide

theorem test_witness_InterruptEnableWrites : State.reset.timers[2]? = some fresh := by decide

theorem test_witness_TickInCounterMode :
    (onTimer (countingAt 0xFFFF#32 10#32 9#32)).timers[0]? = some (countingAt 0xFFFF#32 10#32 9#32) ∧
    (countingAt 0xFFFF#32 10#32 9#32).running = true ∧
    (countingAt 0xFFFF#32 10#32 9#32).mode = .counter := by decide

theorem test_witness_TickInTimerMode :
    (onTimer (runningAt 4#32)).timers[0]? = some (runningAt 4#32) ∧ (runningAt 4#32).running = true ∧
    (runningAt 4#32).mode = .timer := by decide

theorem test_witness_TicksWrapAtTheLatchedMask :
    (onTimer (runningAt 0xFFFF#32)).timers[0]? = some (runningAt 0xFFFF#32) ∧ (runningAt 0xFFFF#32).Inv ∧
    (runningAt 0xFFFF#32).running = true ∧ (runningAt 0xFFFF#32).mode = .timer := by decide

/-- The smallest limit, and the largest the mask admits. -/
theorem test_witness_CounterModeDividesByTheLimit :
    ∀ t ∈ ([countingAt 0xFFFF#32 1#32 0#32, countingAt 0xFF#32 0xFF#32 0xFE#32] : List Timer),
      (onTimer t).timers[0]? = some t ∧ t.Inv ∧ t.running = true ∧ t.mode = .counter ∧
      t.liveCounter < t.softwareLimit ∧ t.softwareLimit ≤ t.latchedMask := by decide

/-- The smallest limit above the mask. -/
theorem test_witness_CounterModeLimitAboveMask :
    (onTimer (countingAt 0xFF#32 0x100#32 0xFF#32)).timers[0]? = some (countingAt 0xFF#32 0x100#32 0xFF#32) ∧
    (countingAt 0xFF#32 0x100#32 0xFF#32).Inv ∧ (countingAt 0xFF#32 0x100#32 0xFF#32).running = true ∧
    (countingAt 0xFF#32 0x100#32 0xFF#32).mode = .counter ∧
    (countingAt 0xFF#32 0x100#32 0xFF#32).latchedMask < (countingAt 0xFF#32 0x100#32 0xFF#32).softwareLimit := by
  decide

/-- A word for each row, with the bits no rule reads set in one. -/
theorem test_witness_DriveWriteScansOneRow :
    (0x2000#32).toNat / 2 ^ 13 % 8 = 2 ^ (0 : Fin 3).val ∧
    (0x5B60#32).toNat / 2 ^ 13 % 8 = 2 ^ (1 : Fin 3).val ∧
    (0xFFFF9FFF#32).toNat / 2 ^ 13 % 8 = 2 ^ (2 : Fin 3).val := by decide

/-- Each of the five invalid row selects. -/
theorem test_witness_InvalidScanIsIgnored :
    (0x0000#32).toNat / 2 ^ 13 % 8 ∉ [1, 2, 4] ∧ (0x6000#32).toNat / 2 ^ 13 % 8 ∉ [1, 2, 4] ∧
    (0xA000#32).toNat / 2 ^ 13 % 8 ∉ [1, 2, 4] ∧ (0xC000#32).toNat / 2 ^ 13 % 8 ∉ [1, 2, 4] ∧
    (0xFFFFFFFF#32).toNat / 2 ^ 13 % 8 ∉ [1, 2, 4] := by decide

theorem test_witness_DriveIgnoresOtherBits :
    (0x5B60#32).extractLsb' 4 12 = (0xFFFF5B6F#32).extractLsb' 4 12 := by decide

theorem test_witness_RowClearMasksPartition : Params.default.ledMapOk = true := by decide

theorem test_witness_FullFrameIsUnionOfRows :
    State.reset.params.ledMapOk = true ∧
    ∀ r : Fin 3, lastValid r [0x2000#32, 0x6000#32, 0x4000#32, 0x8000#32, 0x3FF0#32] =
      some ((fun r : Fin 3 => if r = 0 then 0x3FF0#32 else if r = 1 then 0x4000#32 else 0x8000#32) r) := by
  decide

theorem test_witness_TimerResetValues :
    (onTimer (countingAt 0xFF#32 10#32 9#32)).timers[0]? = some (countingAt 0xFF#32 10#32 9#32) := by decide

theorem test_witness_SaveReturnsTheRecord :
    (onTimer (runningAt 2#32)).timers[0]? = some (runningAt 2#32) := by decide

/-- A record the rule admits, and one it refuses. -/
theorem test_witness_TimerRestore :
    State.reset.timers[2]? = some fresh ∧
    ¬((runningAt 5#32).record.running = true ∧ (runningAt 5#32).record.pulsedStop = true) ∧
    (runningAt 5#32).record.latchedMask ∈ ([0xFF#32, 0xFFFF#32, 0xFFFFFF#32, 0xFFFFFFFF#32] : List Word) ∧
    (runningAt 5#32).record.liveCounter ≤ (runningAt 5#32).record.latchedMask ∧
    (runningAt 5#32).record.latchedPrescaler ≤ 9 ∧ (runningAt 5#32).record.prescaler ≤ 15 ∧
    (runningAt 5#32).record.bitModeCode ≤ 3 ∧ (runningAt 5#32).record.interruptEnableMask ≤ 15 ∧
    (runningAt 5#32).record.mode = .timer ∧ (runningAt 5#32).record.activeLimit = 0#32 ∧
    ¬({ fresh.record with latchedPrescaler := 10 } : TimerRecord).latchedPrescaler ≤ 9 := by decide

/-- The largest mask admitted, and the smallest refused. -/
theorem test_witness_LedRestore :
    (0x1FFFFFF#32).toNat ≤ 0x1FFFFFF ∧ 0x1FFFFFF < (0x2000000#32).toNat := by decide

theorem test_witness_SaveRestoreRoundTrip :
    (onTimer (runningAt 2#32)).Inv ∧ (onTimer (runningAt 2#32)).timers[0]? = some (runningAt 2#32) ∧
    State.reset.timers[0]? = some fresh := by decide

/-- A drive write that changes the mask, and an acknowledgement that clears each flag. -/
theorem test_witness_LedFieldsWriters :
    nextSat (exec (.wDrive 0x2000#32) (onLed 0#25 true)) (fun s => s.led.litMask != 0#25) = true ∧
    (onLed 0#25 true).led.redrawFront = true ∧ (onLed 0#25 true).led.redrawBack = true ∧
    nextSat (exec (.sinkAck true true) (onLed 0#25 true))
      (fun s => !s.led.redrawFront && !s.led.redrawBack) = true := by decide

theorem test_witness_TimerBadOffset :
    State.reset.timers[2]? = some fresh ∧ State.reset.params.isUnimplemented 0x100#32 = false := by decide

theorem test_witness_TimerUnimplementedOffset :
    (State.init withUnimpl).timers[2]? = some (Timer.fresh withUnimpl) ∧
    0x100#32 ∈ (State.init withUnimpl).params.unimplOffsets ∧
    (0x100#32).toNat < (State.init withUnimpl).params.windowSize ∧ (0x100#32).toNat % 4 = 0 := by decide

end Sys2Proof.Tests.Slice0
end

/-!
PROOFS. The statements about the whole state (10_state.md): the invariants every step keeps, the frame of
an operation and what its outcome depends on, the writers of each field, and the diagnostic lists. Each is
read off what `exec` can do to the one device it addresses (`exec_next_timer`, `exec_next_led`).
-/

namespace Sys2Proof.Machine

variable {i : Instr} {s s' u : State} {k : Nat} {t t' : Timer} {p : Params} {l : Led}

/-! ### START, STOP and LIMIT as field updates -/

/-- R111, R276: a resuming Start. -/
theorem Timer.start_of_paused (p : Params) (h : t.pulsedStop = true) :
    t.start p = { t with running := true, pulsedStop := false } := by
  simp [Timer.start, h]

/-- R111, R112: a reloading Start. -/
theorem Timer.start_of_not_paused (p : Params) (h : t.pulsedStop = false) :
    t.start p = { t with
      latchedPrescaler := effectivePrescaler t.prescaler
      latchedMask := p.maskOf t.bitModeCode
      liveCounter := t.liveCounter &&& p.maskOf t.bitModeCode
      activeLimit := t.reloadValue
      running := true
      pulsedStop := false } := by
  simp only [Timer.start, h, Bool.false_eq_true, if_false]
  rfl

@[simp] theorem Timer.start_interruptLine (p : Params) (t : Timer) :
    (t.start p).interruptLine = t.interruptLine := by
  unfold Timer.start
  split <;> rfl

@[simp] theorem Timer.start_diag (p : Params) (t : Timer) : (t.start p).diag = t.diag := by
  unfold Timer.start
  split <;> rfl

/-- R113 and R114 in one update. -/
theorem Timer.stop_eq (t : Timer) :
    t.stop = { t with running := false, pulsedStop := t.running || t.pulsedStop } := by
  unfold Timer.stop
  split
  · next h => simp [h]
  · next h => cases t; simp_all

/-- R147 in one update. -/
theorem Timer.writeLimit_eq (t : Timer) (v : Word) :
    t.writeLimit v = { t with
      softwareLimit := if t.mode = .counter then v else t.softwareLimit
      activeLimit := if t.mode = .counter then v else t.activeLimit } := by
  unfold Timer.writeLimit
  split
  · next h => simp [Timer.reload, Timer.reloadValue, h]
  · next h => cases t; simp_all

/-! ### The drive word on the redraw flags and the list -/

/-- R192, R197: a drive word changes nothing, or marks both redraws and writes the lit mask. -/
theorem Led.drive_cases (p : Params) (l : Led) (v : Word) :
    l.drive p v = l ∨ ∃ m, l.drive p v = { l with litMask := m }.markRedraw := by
  unfold Led.drive
  split
  · exact .inl rfl
  · exact .inr ⟨_, rfl⟩

/-! ### What an operation does to each device -/

/-- A timer is as before, or the operation addresses it and leaves `timerAfter` of it. -/
theorem exec_next_timer (h : exec i s = .next s') (ht : s.timers[k]? = some t)
    (ht' : s'.timers[k]? = some t') :
    t' = t ∨ i.target = .timer k ∧ timerPerforms i t = true ∧ t' = timerAfter s.params i t := by
  obtain ⟨j, hi⟩ | hi := i.target_cases
  · obtain ⟨v, hv, hp, rfl⟩ := exec_timer_next hi h
    rw [State.respond_timers] at ht'
    by_cases hk : k = j
    · subst hk
      obtain rfl : v = t := by simpa [hv] using ht
      rw [State.putTimer_get hv] at ht'
      exact .inr ⟨hi, hp, by simpa using ht'.symm⟩
    · rw [State.putTimer_get_ne hk, ht] at ht'
      exact .inl (by simpa using ht'.symm)
  · obtain ⟨_, rfl⟩ := exec_led_next hi h
    exact .inl (by simpa [ht] using ht'.symm)

/-- The LED decoder is as before, or the operation addresses it and leaves `ledAfter` of it. -/
theorem exec_next_led (h : exec i s = .next s') :
    s'.led = s.led ∨ i.target = .led ∧ s'.led = ledAfter s.params i s.led := by
  obtain ⟨k, hi⟩ | hi := i.target_cases
  · obtain ⟨t, _, _, rfl⟩ := exec_timer_next hi h
    exact .inl rfl
  · obtain ⟨_, rfl⟩ := exec_led_next hi h
    exact .inr ⟨hi, rfl⟩

/-! ### The invariants -/

/-- Every operation that is performed keeps its timer's invariants. -/
theorem timerAfter_inv (p : Params) (hp : timerPerforms i t = true) (h : t.Inv) :
    (timerAfter p i t).Inv := by
  cases i with
  | wStart => exact Timer.start_inv h
  | wStop => exact Timer.stop_inv h
  | wLimit _ v => exact Timer.writeLimit_inv h v
  | wClear => exact Timer.clear_inv h
  | wShutdown => exact Timer.shutdown_inv h
  | wMode _ v => exact Timer.writeMode_inv h v
  | tick => exact Timer.tick_inv h
  | tReset => exact Timer.reset_inv p t
  | tRestore => exact Timer.restore_inv hp t
  | _ => exact h

theorem exec_inv (hs : s.Inv) (h : exec i s = .next s') : s'.Inv := by
  obtain ⟨hlen, hall⟩ := hs
  obtain ⟨k, hi⟩ | hi := i.target_cases
  · obtain ⟨t, ht, hp, rfl⟩ := exec_timer_next hi h
    refine ⟨by simpa using hlen, fun v hv => ?_⟩
    obtain hv | rfl := List.mem_or_eq_of_mem_set hv
    · exact hall v hv
    · exact timerAfter_inv _ hp (hall t (List.mem_of_getElem? ht))
  · obtain ⟨_, rfl⟩ := exec_led_next hi h
    exact ⟨hlen, hall⟩

/-- Settles O11: `exec` keeps the invariants, and the rest of a step moves the stream position only. -/
theorem stepKeepsInvariants : Obligations.StepKeepsInvariants := by
  intro s s' hs h
  obtain rfl | rfl | ⟨i, u, _, hu, rfl⟩ := step_next h
  · exact hs
  · exact hs
  · exact (exec_inv hs hu :)

/-- Settles O10: every timer is a fresh one, which has the invariants and a zero counter. -/
theorem instantiationMeetsInvariants : Obligations.InstantiationMeetsInvariants := by
  intro p
  have hfresh : ∀ t ∈ (State.init p).timers, t = Timer.fresh p :=
    fun _ ht => List.eq_of_mem_replicate ht
  refine ⟨⟨List.length_replicate, fun t ht => ?_⟩, fun t ht _ => ?_⟩
  · rw [hfresh t ht]
    exact Timer.fresh_inv p
  · rw [hfresh t ht]
    rfl

/-! ### The diagnostic lists are invisible -/

@[simp] theorem State.forgetDiag_forgetDiag (s : State) :
    s.forgetDiag.forgetDiag = s.forgetDiag := by
  simp [State.forgetDiag, Function.comp_def]

@[simp] theorem State.forgetDiag_putTimer (s : State) (k : Nat) (t : Timer) :
    (s.putTimer k t).forgetDiag = s.forgetDiag.putTimer k t.forgetDiag := by
  simp [State.forgetDiag, State.putTimer, List.map_set]

@[simp] theorem State.forgetDiag_putLed (s : State) (l : Led) :
    (s.putLed l).forgetDiag = s.forgetDiag.putLed l.forgetDiag := rfl

@[simp] theorem State.forgetDiag_respond (s : State) (r : Response) :
    (s.respond r).forgetDiag = s.forgetDiag.respond r := rfl

theorem forgetDiagOutcome_eq_next {o : Result} :
    forgetDiagOutcome o = .next u ↔ ∃ v, o = .next v ∧ v.forgetDiag = u := by
  cases o <;> simp [forgetDiagOutcome]

theorem forgetDiagOutcome_eq_fault {o : Result} {f : Fault} :
    forgetDiagOutcome o = .fault f ↔ o = .fault f := by
  cases o <;> simp [forgetDiagOutcome]

theorem forgetDiagOutcome_eq_refused {o : Result} {e : Refusal} :
    forgetDiagOutcome o = .refused e ↔ o = .refused e := by
  cases o <;> simp [forgetDiagOutcome]

theorem timerPerforms_forgetDiag (i : Instr) (t : Timer) :
    timerPerforms i t.forgetDiag = timerPerforms i t := by
  cases i <;> rfl

theorem timerResponse_forgetDiag (p : Params) (i : Instr) (t : Timer) :
    timerResponse p i t.forgetDiag = timerResponse p i t := by
  cases i <;> rfl

theorem ledResponse_forgetDiag (i : Instr) (l : Led) :
    ledResponse i l.forgetDiag = ledResponse i l := by
  cases i <;> rfl

theorem Timer.start_forgetDiag (p : Params) (t : Timer) :
    t.forgetDiag.start p = (t.start p).forgetDiag := by
  cases h : t.pulsedStop with
  | true => rw [Timer.start_of_paused p h, Timer.start_of_paused p (t := t.forgetDiag) h]; rfl
  | false =>
    rw [Timer.start_of_not_paused p h, Timer.start_of_not_paused p (t := t.forgetDiag) h]; rfl

/-- No timer operation reads the list it keeps or extends. -/
theorem timerAfter_forgetDiag (p : Params) (i : Instr) (t : Timer) :
    (timerAfter p i t.forgetDiag).forgetDiag = (timerAfter p i t).forgetDiag := by
  cases i with
  | wStart => simp only [timerAfter, Timer.start_forgetDiag, Timer.forgetDiag_forgetDiag]
  | wStop =>
    simp only [timerAfter, Timer.stop_eq]
    rfl
  | wLimit =>
    simp only [timerAfter, Timer.writeLimit_eq]
    rfl
  | tick => simp only [timerAfter, Timer.tick_forgetDiag, Timer.forgetDiag_forgetDiag]
  | _ => rfl

/-- No LED operation reads the list it keeps or extends. -/
theorem ledAfter_forgetDiag (p : Params) (i : Instr) (l : Led) :
    (ledAfter p i l.forgetDiag).forgetDiag = (ledAfter p i l).forgetDiag := by
  cases i with
  | wDrive =>
    simp only [ledAfter, Led.drive]
    split <;> rfl
  | _ => rfl

/-- R224: a malformed record is refused in every state. -/
theorem exec_tRestore_malformed {rec : TimerRecord} (h : timerRecordOk rec = false) (k : Nat)
    (s : State) : exec (.tRestore k rec) s = .refused .badRecord := by
  simp [exec, execTRestore, h]

/-- R225: an LED operation that is not performed is a RESTORE of a malformed record. -/
theorem exec_led_not (hp : ledPerforms i = false) (s : State) :
    exec i s = .refused .badRecord := by
  cases i <;> simp only [ledPerforms, Bool.true_eq_false] at hp
  simp [exec, execLRestore, hp]

/-- Where the timer does not exist, an operation on it has one outcome. -/
theorem exec_timer_none_congr (hi : i.target = .timer k) (hs : s.timers[k]? = none)
    (hu : u.timers[k]? = none) : exec i s = exec i u := by
  by_cases hm : ∃ rec, i = .tRestore k rec ∧ timerRecordOk rec = false
  · obtain ⟨rec, rfl, hok⟩ := hm
    rw [exec_tRestore_malformed hok, exec_tRestore_malformed hok]
  · have hr : ∀ v : State, v.timers[k]? = none → exec i v = .refused (.noSuchTimer k) :=
      fun v hv => (exec_timer_none hi hv).resolve_right
        fun ⟨rec, h, hok, _⟩ => hm ⟨rec, h, hok⟩
    rw [hr s hs, hr u hu]

/-- An operation that neither of two timers performs has one outcome. -/
theorem exec_timer_not_congr (hi : i.target = .timer k) (hs : s.timers[k]? = some t)
    (hu : u.timers[k]? = some t') (hp : timerPerforms i t = false)
    (hp' : timerPerforms i t' = false) : exec i s = exec i u := by
  obtain ⟨rfl, he⟩ | ⟨rec, rfl, hok, he⟩ := exec_timer_not hi hs hp
  · exact he.trans (execTick_of_stopped hu hp').symm
  · exact he.trans (exec_tRestore_malformed hok k u).symm

/-- A timer operation does not look at the diagnostic lists. -/
theorem exec_timer_forgetDiag (hi : i.target = .timer k) (s : State) :
    forgetDiagOutcome (exec i s.forgetDiag) = forgetDiagOutcome (exec i s) := by
  cases ht : s.timers[k]? with
  | none => rw [exec_timer_none_congr hi (s := s.forgetDiag) (by simp [ht]) ht]
  | some t =>
    have ht' : s.forgetDiag.timers[k]? = some t.forgetDiag := by simp [ht]
    have hp' := timerPerforms_forgetDiag i t
    cases hp : timerPerforms i t with
    | false => rw [exec_timer_not_congr hi ht' ht (hp'.trans hp) hp]
    | true =>
      rw [exec_timer hi ht' (hp'.trans hp), exec_timer hi ht hp]
      simp [forgetDiagOutcome, timerAfter_forgetDiag, timerResponse_forgetDiag]

/-- An LED operation does not look at the diagnostic lists. -/
theorem exec_led_forgetDiag (hi : i.target = .led) (s : State) :
    forgetDiagOutcome (exec i s.forgetDiag) = forgetDiagOutcome (exec i s) := by
  cases hp : ledPerforms i with
  | false => rw [exec_led_not hp, exec_led_not hp]
  | true =>
    rw [exec_led hi hp, exec_led hi hp]
    simp [forgetDiagOutcome, ledAfter_forgetDiag, ledResponse_forgetDiag]

theorem exec_forgetDiag (i : Instr) (s : State) :
    forgetDiagOutcome (exec i s.forgetDiag) = forgetDiagOutcome (exec i s) := by
  obtain ⟨k, hi⟩ | hi := i.target_cases
  · exact exec_timer_forgetDiag hi s
  · exact exec_led_forgetDiag hi s

/-- Settles O22, by induction on the sequence: after one operation the two states again differ in their
lists only. -/
theorem diagIsInvisible : Obligations.DiagIsInvisible := by
  intro is
  induction is with
  | nil => simp [execAll, forgetDiagOutcome]
  | cons i rest ih =>
    intro s
    have h := exec_forgetDiag i s
    cases hs : exec i s with
    | next u =>
      obtain ⟨v, hv, hvu⟩ := forgetDiagOutcome_eq_next.mp (h.trans (congrArg forgetDiagOutcome hs))
      simp only [execAll, hs, hv]
      calc forgetDiagOutcome (execAll rest v)
          = forgetDiagOutcome (execAll rest v.forgetDiag) := (ih v).symm
        _ = forgetDiagOutcome (execAll rest u.forgetDiag) := by rw [hvu]
        _ = forgetDiagOutcome (execAll rest u) := ih u
    | fault f =>
      have hf := forgetDiagOutcome_eq_fault.mp (h.trans (congrArg forgetDiagOutcome hs))
      simp only [execAll, hs, hf]
    | refused e =>
      have he := forgetDiagOutcome_eq_refused.mp (h.trans (congrArg forgetDiagOutcome hs))
      simp only [execAll, hs, he]

/-! ### The frame of an operation -/

/-- Settles O13: an operation replaces its own device and the response. -/
theorem onlyTheTargetDeviceChanges : Obligations.OnlyTheTargetDeviceChanges := by
  intro s s' i h
  obtain ⟨k, hi⟩ | hi := i.target_cases
  · obtain ⟨t, _, _, rfl⟩ := exec_timer_next hi h
    refine ⟨rfl, rfl, rfl, by simp, fun j hj => ?_, fun _ => rfl⟩
    have hne : j ≠ k := fun hjk => hj (hjk ▸ hi)
    exact State.putTimer_get_ne hne _
  · obtain ⟨_, rfl⟩ := exec_led_next hi h
    exact ⟨rfl, rfl, rfl, rfl, fun _ _ => rfl, fun hne => absurd hi hne⟩

/-- Settles O14: whether an operation is performed, what it leaves and what it returns are functions of
its device and the parameters. -/
theorem outcomeDependsOnTargetDeviceOnly : Obligations.OutcomeDependsOnTargetDeviceOnly := by
  intro i a b a' hparams h
  refine ⟨fun k hi hdev => ?_, fun hi hdev => ?_⟩
  · obtain ⟨t, ha, hp, rfl⟩ := exec_timer_next hi h
    have hb : b.timers[k]? = some t := hdev ▸ ha
    refine ⟨_, exec_timer hi hb hp, ?_, by simp [hparams]⟩
    rw [State.respond_timers, State.respond_timers, State.putTimer_get hb, State.putTimer_get ha,
      hparams]
  · obtain ⟨hp, rfl⟩ := exec_led_next hi h
    exact ⟨_, exec_led hi hp, by simp [hparams, hdev], by simp [hdev]⟩

/-! ### The writers of each field of a timer -/

/-- R33, R251: the operations that write the interrupt line. -/
theorem timerAfter_interruptLine_ne (hi : i.target = .timer k)
    (h : (timerAfter p i t).interruptLine ≠ t.interruptLine) :
    i = .tick k ∨ i = .tReset k ∨ ∃ rec, i = .tRestore k rec := by
  cases i with
  | tick => cases hi; exact .inl rfl
  | tReset => cases hi; exact .inr (.inl rfl)
  | tRestore _ rec => cases hi; exact .inr (.inr ⟨rec, rfl⟩)
  | wStart => exact absurd (t.start_interruptLine p) h
  | wStop => exact absurd (congrArg Timer.interruptLine t.stop_eq :) h
  | wLimit _ v => exact absurd (congrArg Timer.interruptLine (t.writeLimit_eq v) :) h
  | _ => exact absurd rfl h

/-- Settles O18: of the addressed timer, only those three operations write the line. -/
theorem lineChangesOnlyAtTickResetRestore : Obligations.LineChangesOnlyAtTickResetRestore := by
  intro s s' i k t t' h ht ht' hne
  obtain rfl | ⟨hi, _, rfl⟩ := exec_next_timer h ht ht'
  · exact absurd rfl hne
  · exact timerAfter_interruptLine_ne hi hne

/-- R28: the operations that write the live counter; a resuming Start does not. -/
theorem timerAfter_liveCounter_ne (hi : i.target = .timer k)
    (h : (timerAfter p i t).liveCounter ≠ t.liveCounter) :
    i = .tick k ∨ (∃ v, i = .wClear k v) ∨ (∃ v, i = .wShutdown k v) ∨
    (∃ v, i = .wStart k v ∧ t.pulsedStop = false) ∨ i = .tReset k ∨ ∃ rec, i = .tRestore k rec := by
  cases i with
  | tick => cases hi; exact .inl rfl
  | wClear _ v => cases hi; exact .inr (.inl ⟨v, rfl⟩)
  | wShutdown _ v => cases hi; exact .inr (.inr (.inl ⟨v, rfl⟩))
  | wStart _ v =>
    cases hi
    have hs : t.pulsedStop ≠ true := fun hs =>
      h (congrArg Timer.liveCounter (Timer.start_of_paused p hs) :)
    exact .inr (.inr (.inr (.inl ⟨v, rfl, eq_false_of_ne_true hs⟩)))
  | tReset => cases hi; exact .inr (.inr (.inr (.inr (.inl rfl))))
  | tRestore _ rec => cases hi; exact .inr (.inr (.inr (.inr (.inr ⟨rec, rfl⟩))))
  | wStop => exact absurd (congrArg Timer.liveCounter t.stop_eq :) h
  | wLimit _ v => exact absurd (congrArg Timer.liveCounter (t.writeLimit_eq v) :) h
  | _ => exact absurd rfl h

/-- Settles O19: of the addressed timer, only those operations write the counter. -/
theorem counterWriters : Obligations.CounterWriters := by
  intro s s' i k t t' h ht ht' hne
  obtain rfl | ⟨hi, _, rfl⟩ := exec_next_timer h ht ht'
  · exact absurd rfl hne
  · exact timerAfter_liveCounter_ne hi hne

/-- What Latch (R112) writes of a timer beside the counter. -/
def Timer.latched (t : Timer) : Word × BitVec 4 :=
  (t.latchedMask, t.latchedPrescaler)

/-- R36, R37: the operations that write a latched field; a resuming Start does not (R276). -/
theorem timerAfter_latched_ne (hi : i.target = .timer k)
    (h : (timerAfter p i t).latched ≠ t.latched) :
    (∃ v, i = .wStart k v ∧ t.pulsedStop = false) ∨ i = .tReset k ∨ ∃ rec, i = .tRestore k rec := by
  cases i with
  | wStart _ v =>
    cases hi
    have hs : t.pulsedStop ≠ true := fun hs =>
      h (congrArg Timer.latched (Timer.start_of_paused p hs) :)
    exact .inl ⟨v, rfl, eq_false_of_ne_true hs⟩
  | tReset => cases hi; exact .inr (.inl rfl)
  | tRestore _ rec => cases hi; exact .inr (.inr ⟨rec, rfl⟩)
  | wStop => exact absurd (congrArg Timer.latched t.stop_eq :) h
  | wLimit _ v => exact absurd (congrArg Timer.latched (t.writeLimit_eq v) :) h
  | tick =>
    obtain ⟨_, _, _, he⟩ := t.tick_eq
    exact absurd (congrArg Timer.latched he :) h
  | _ => exact absurd rfl h

/-- Settles O20: of the addressed timer, only those operations write a latched field. -/
theorem latchedFieldsWriters : Obligations.LatchedFieldsWriters := by
  intro s s' i k t t' h ht ht' hne
  have hlatched : t'.latched ≠ t.latched := by
    simpa only [Timer.latched, ne_eq, Prod.mk.injEq, not_and_or] using hne
  obtain rfl | ⟨hi, _, rfl⟩ := exec_next_timer h ht ht'
  · exact absurd rfl hlatched
  · exact timerAfter_latched_ne hi hlatched

/-! ### The writers of the diagnostic lists -/

/-- R35, R241: a timer operation keeps the list, or is a fallback operation and appends one record. -/
theorem timerAfter_diag (p : Params) (hi : i.target = .timer k) (t : Timer) :
    (timerAfter p i t).diag = t.diag ∨
    (∃ d, (timerAfter p i t).diag = t.diag ++ [d]) ∧
      ((∃ off w, i = .tRBadoffset k off w) ∨ ∃ off v w, i = .tWBadoffset k off v w) := by
  cases i with
  | tRBadoffset _ off w => cases hi; exact .inr ⟨⟨_, rfl⟩, .inl ⟨off, w, rfl⟩⟩
  | tWBadoffset _ off v w => cases hi; exact .inr ⟨⟨_, rfl⟩, .inr ⟨off, v, w, rfl⟩⟩
  | wStart => exact .inl (t.start_diag p)
  | wStop => exact .inl (congrArg Timer.diag t.stop_eq :)
  | wLimit _ v => exact .inl (congrArg Timer.diag (t.writeLimit_eq v) :)
  | tick =>
    obtain ⟨_, _, _, he⟩ := t.tick_eq
    exact .inl (congrArg Timer.diag he :)
  | _ => exact .inl rfl

/-- R44, R241: an LED operation keeps the list, or is a fallback operation and appends one record. -/
theorem ledAfter_diag (p : Params) (i : Instr) (l : Led) :
    (ledAfter p i l).diag = l.diag ∨
    (∃ d, (ledAfter p i l).diag = l.diag ++ [d]) ∧
      ((∃ off w, i = .lRBadoffset off w) ∨ ∃ off v w, i = .lWBadoffset off v w) := by
  cases i with
  | lRBadoffset off w => exact .inr ⟨⟨_, rfl⟩, .inl ⟨off, w, rfl⟩⟩
  | lWBadoffset off v w => exact .inr ⟨⟨_, rfl⟩, .inr ⟨off, v, w, rfl⟩⟩
  | wDrive v =>
    obtain he | ⟨_, he⟩ := l.drive_cases p v
    · exact .inl (congrArg Led.diag he :)
    · exact .inl (congrArg Led.diag he :)
  | _ => exact .inl rfl

/-- A list that is kept, or else extended by an operation of which `P` holds, has grown, and has changed
only where `P` holds. -/
theorem grows_of_kept_or_appended {a b : List Diag} {P : Prop}
    (h : b = a ∨ (∃ d, b = a ++ [d]) ∧ P) : (∃ d, b = a ++ d) ∧ (b ≠ a → P) := by
  obtain rfl | ⟨⟨d, rfl⟩, hP⟩ := h
  · exact ⟨⟨[], (List.append_nil _).symm⟩, fun hne => absurd rfl hne⟩
  · exact ⟨⟨[d], rfl⟩, fun _ => hP⟩

/-- Settles O21: an operation keeps its device's list or appends one record to it. -/
theorem diagIsAppendOnly : Obligations.DiagIsAppendOnly := by
  intro s s' i h
  refine ⟨fun k t t' ht ht' => grows_of_kept_or_appended ?_, grows_of_kept_or_appended ?_⟩
  · obtain rfl | ⟨hi, _, rfl⟩ := exec_next_timer h ht ht'
    · exact .inl rfl
    · exact timerAfter_diag s.params hi t
  · obtain he | ⟨_, he⟩ := exec_next_led h
    · exact .inl (congrArg Led.diag he :)
    · rw [he]
      exact ledAfter_diag s.params i s.led

/-! ### The writers of the lit mask and the redraw flags -/

/-- R42: the operations that write the lit mask. -/
theorem ledAfter_litMask_ne (h : (ledAfter p i l).litMask ≠ l.litMask) :
    (∃ v, i = .wDrive v) ∨ i = .lReset ∨ ∃ rec, i = .lRestore rec := by
  cases i with
  | wDrive v => exact .inl ⟨v, rfl⟩
  | lReset => exact .inr (.inl rfl)
  | lRestore rec => exact .inr (.inr ⟨rec, rfl⟩)
  | _ => exact absurd rfl h

/-- R43: every operation but an acknowledgement keeps both redraw flags or sets both. -/
theorem ledAfter_redraw (p : Params) (i : Instr) (l : Led) :
    (∃ front back, i = .sinkAck front back) ∨
    (ledAfter p i l).redrawFront = l.redrawFront ∧ (ledAfter p i l).redrawBack = l.redrawBack ∨
    (ledAfter p i l).redrawFront = true ∧ (ledAfter p i l).redrawBack = true := by
  cases i with
  | sinkAck front back => exact .inl ⟨front, back, rfl⟩
  | rDrive | lReset | lRestore => exact .inr (.inr ⟨rfl, rfl⟩)
  | wDrive v =>
    obtain he | ⟨_, he⟩ := l.drive_cases p v
    · exact .inr (.inl ⟨(congrArg Led.redrawFront he :), (congrArg Led.redrawBack he :)⟩)
    · exact .inr (.inr ⟨(congrArg Led.redrawFront he :), (congrArg Led.redrawBack he :)⟩)
  | _ => exact .inr (.inl ⟨rfl, rfl⟩)

/-- R43, R226: what clears a redraw flag is an acknowledgement that names it. -/
theorem ledAfter_clears_redraw :
    (l.redrawFront = true → (ledAfter p i l).redrawFront = false → ∃ b, i = .sinkAck true b) ∧
    (l.redrawBack = true → (ledAfter p i l).redrawBack = false → ∃ f, i = .sinkAck f true) := by
  obtain ⟨front, back, rfl⟩ | ⟨hf, hb⟩ | ⟨hf, hb⟩ := ledAfter_redraw p i l
  · simp +contextual [ledAfter, Led.ack]
  · simp +contextual [hf, hb]
  · simp [hf, hb]

/-- Settles O57: of the LED decoder, only those operations write the mask or clear a flag. -/
theorem ledFieldsWriters : Obligations.LedFieldsWriters := by
  intro s s' i h
  obtain he | ⟨_, he⟩ := exec_next_led h
  · simp +contextual [he]
  · rw [he]
    exact ⟨ledAfter_litMask_ne, ledAfter_clears_redraw⟩

/-! ### A reloading Start -/

/-- Settles O25: the reloading Start, its mask, clamp and limit written out. -/
theorem startLatchesAndReloads : Obligations.StartLatchesAndReloads := by
  intro s k v t ht hpaused
  rw [exec_timer (i := .wStart k v) rfl ht rfl]
  simp only [timerAfter, Timer.start_of_not_paused s.params hpaused, effectivePrescaler_eq,
    Params.maskOf, CounterWidth.mask_eq_ofNat, Timer.reloadValue_eq]
  rfl

end Sys2Proof.Machine

/-!
PROOFS. The statements about bus accesses (20_memory.md): which widths are refused or performed as width 4,
which offsets decode to the fallback operations, that a read of a timer changes nothing but the response,
and that a step performs the operation at the stream position.
-/

namespace Sys2Proof

variable {p : Params} {dev : Dev} {offset : Word} {width : BitVec 8}

/-! ### The widths of R64 -/

/-- R64: a width outside 1, 2, 4 is refused under either setting. -/
theorem Params.widthReject_of_bad (p : Params) (h1 : width ≠ 1#8) (h2 : width ≠ 2#8)
    (h4 : width ≠ 4#8) : p.widthReject width = some (.badWidth width) := by
  simp [Params.widthReject, h1, h2, h4]

/-- R64: a narrow width is refused under `refuse`. -/
theorem Params.widthReject_of_narrow (hw : width = 1#8 ∨ width = 2#8)
    (hp : p.narrowAccess = .refuse) : p.widthReject width = some (.narrowAccess width) := by
  obtain rfl | rfl := hw <;> simp [Params.widthReject, hp]

/-- R64: a narrow width has a meaning under `as_word`. -/
theorem Params.widthAllowed_of_narrow (hw : width = 1#8 ∨ width = 2#8)
    (hp : p.narrowAccess = .asWord) : p.widthAllowed width = true := by
  obtain rfl | rfl := hw <;> simp [Params.widthAllowed, hp]

@[simp] theorem Params.widthAllowed_four (p : Params) : p.widthAllowed 4#8 = true := rfl

/-! ### The offsets that name no register -/

/-- R84: no register has the offset exactly where the search through R41's list finds none. -/
theorem Params.registerAt_eq_none : p.registerAt offset = none ↔ ∀ r, p.offsetOf r ≠ offset := by
  simp [Params.registerAt, List.find?_eq_none, TimerReg.mem_list]

/-- R63, R84, R86: the reserved offsets of a timer's window. -/
theorem Params.timerReg_eq_none : p.timerReg offset = none ↔
    p.windowSize ≤ offset.toNat ∨ offset.toNat % 4 ≠ 0 ∨ ∀ r, p.offsetOf r ≠ offset := by
  rw [← Params.registerAt_eq_none, ← or_assoc, ← not_lt, ← not_and_or, ← p.addressable_iff]
  by_cases ha : p.addressable offset = true
  · simp [Params.timerReg, ha]
  · simp [Params.timerReg, ha]

/-- R63, R84, R199: the reserved offsets of the LED window. -/
theorem Params.isDrive_eq_false : p.isDrive offset = false ↔
    p.windowSize ≤ offset.toNat ∨ offset.toNat % 4 ≠ 0 ∨ offset ≠ p.ledDriveOffset := by
  rw [← or_assoc, ← not_lt, ← not_and_or, ← p.addressable_iff]
  by_cases ha : p.addressable offset = true
  · simp [Params.isDrive, ha]
  · simp [Params.isDrive, ha]

/-! ### Decoding a transaction (R84) -/

/-- A transaction to an existing device is decoded by R84. -/
theorem decode_bus (hd : p.hasDev dev = true) (dir : Dir) (offset : Word) (width : BitVec 8)
    (value : Word) :
    decode p (.bus dev dir offset width value) = p.decodeBus dev dir offset width value := by
  simp [decode, (p.devReject_eq_none dev).mpr hd]

/-- The width check stands before every other. -/
theorem Params.decodeBus_of_widthReject {e : Reject} (h : p.widthReject width = some e) (dev : Dev)
    (dir : Dir) (offset value : Word) : p.decodeBus dev dir offset width value = .error e := by
  simp [Params.decodeBus, h]

/-- A reserved offset of a timer's window decodes to the fallback operation of the direction. -/
theorem Params.decodeTimer_of_timerReg_eq_none (h : p.timerReg offset = none) (k : Nat) (dir : Dir)
    (width : BitVec 8) (value : Word) :
    p.decodeTimer k dir offset width value = match dir with
      | .read => .tRBadoffset k offset width
      | .write => .tWBadoffset k offset value width := by
  cases dir <;> simp only [Params.decodeTimer, h]

/-- A reserved offset of the LED window decodes to the fallback operation of the direction. -/
theorem Params.decodeLed_of_not_isDrive (h : p.isDrive offset = false) (dir : Dir)
    (width : BitVec 8) (value : Word) :
    p.decodeLed dir offset width value = match dir with
      | .read => .lRBadoffset offset width
      | .write => .lWBadoffset offset value width := by
  cases dir <;> simp only [Params.decodeLed, h]

/-- Settles O5: a refused width is refused before anything else is read, and two allowed widths are both
performed as width 4. -/
theorem accessWidths : Obligations.AccessWidths := by
  intro p dev dir offset value width hdev
  simp only [decode_bus hdev]
  refine ⟨fun h1 h2 h4 => ?_, fun hw hp => ?_, fun hw hp => ?_⟩
  · exact Params.decodeBus_of_widthReject (p.widthReject_of_bad h1 h2 h4) ..
  · exact Params.decodeBus_of_widthReject (Params.widthReject_of_narrow hw hp) ..
  · rw [Params.decodeBus_of_widthAllowed (Params.widthAllowed_of_narrow hw hp),
      Params.decodeBus_of_widthAllowed p.widthAllowed_four]

/-- Settles O6: an access of an allowed width is decoded as that of width 4, and a reserved offset names
no register of its window. -/
theorem reservedOffsetsDecodeToFallback : Obligations.ReservedOffsetsDecodeToFallback := by
  intro p k offset value width hw
  refine ⟨fun hk hoff => ?_, fun hoff => ?_⟩
  · have hdev : p.hasDev (.timer k) = true := decide_eq_true hk
    simp only [decode_bus hdev, Params.decodeBus_of_widthAllowed hw,
      Params.decodeTimer_of_timerReg_eq_none (Params.timerReg_eq_none.mpr hoff), and_self]
  · have hdev : p.hasDev .led = true := rfl
    simp only [decode_bus hdev, Params.decodeBus_of_widthAllowed hw,
      Params.decodeLed_of_not_isDrive (Params.isDrive_eq_false.mpr hoff), and_self]

end Sys2Proof

namespace Sys2Proof.Machine

variable {i : Instr} {s : State} {k : Nat} {t : Timer}

/-! ### Reads of a timer -/

/-- A performed timer operation that keeps its timer changes the response only. -/
theorem exec_timer_of_kept (hi : i.target = .timer k) (ht : s.timers[k]? = some t)
    (hp : timerPerforms i t = true) (hkept : timerAfter s.params i t = t) :
    exec i s = .next (s.respond (timerResponse s.params i t)) := by
  rw [exec_timer hi ht hp, hkept, State.putTimer_self ht]

/-- R67, R69: the register reads of timer `k` and its SAVE. -/
def timerReads (k : Nat) (ch : Channel) : List Instr :=
  [.rStart k, .rStop k, .rLimit k, .rClear k, .rShutdown k, .rIntenset k, .rIntenclr k, .rMode k,
    .rBitmode k, .rPrescaler k, .rCapture k ch, .rCc k ch, .tSave k]

/-- R67, R69: a read of a timer addresses it, is performed always, and keeps it. -/
theorem timerReads_keep {ch : Channel} (hi : i ∈ timerReads k ch) :
    i.target = .timer k ∧ (∀ t, timerPerforms i t = true) ∧ ∀ p t, timerAfter p i t = t := by
  simp only [timerReads, List.mem_cons, List.not_mem_nil, or_false] at hi
  rcases hi with rfl | rfl | rfl | rfl | rfl | rfl | rfl | rfl | rfl | rfl | rfl | rfl | rfl <;>
    exact ⟨rfl, fun _ => rfl, fun _ _ => rfl⟩

/-- Settles O23: what a read returns is a function of the timer and the parameters, which it keeps, and not
of the response before it. -/
theorem readsHaveNoSideEffect : Obligations.ReadsHaveNoSideEffect := by
  intro s k ch i hi hk
  obtain ⟨htarget, hperf, hkept⟩ := timerReads_keep hi
  have ht : s.timers[k]? = some s.timers[k] := List.getElem?_eq_getElem hk
  refine ⟨_, exec_timer_of_kept htarget ht (hperf _) (hkept _ _), fun r' => ?_⟩
  exact exec_timer_of_kept (s := s.respond r') htarget ht (hperf _) (hkept _ _)

/-! ### The step -/

/-- R66: a step at a request that decodes to an operation performs it. -/
theorem step_of_decode {req : Request} (h : s.stream[s.pos]? = some req)
    (hd : decode s.params req = .ok i) : step s = finish (exec i s) := by
  simp only [step, runNext, State.fetch_of_decode h hd]

/-- Settles O8: no operation moves the stream position itself, so a performed one leaves it one past. -/
theorem stepRunsDecodedOperation : Obligations.StepRunsDecodedOperation := by
  intro s r i hr hd
  rw [step_of_decode hr hd]
  cases he : exec i s with
  | next s' =>
    obtain ⟨_, _, hpos, _⟩ := onlyTheTargetDeviceChanges s s' i he
    simp only [finish, State.advance, hpos]
  | fault f => rfl
  | refused e => rfl

end Sys2Proof.Machine

/-!
PROOFS. The statements about the encoding (30_encoding.md): decoding what `encode` gives, the selectors of
R81 against the opcode table of R90, the host events of R82; and an access to an unimplemented offset (R243).
-/

namespace Sys2Proof

variable {p : Params} {k : Nat} {offset : Word} {width : BitVec 8} {sel : BitVec 15} {i : Instr}

/-! ### Decoding an access of width 4, and an event -/

theorem decode_timerAccess (hd : p.hasDev (.timer k) = true) (dir : Dir) (offset value : Word) :
    decode p (.bus (.timer k) dir offset 4#8 value) = .ok (p.decodeTimer k dir offset 4#8 value) := by
  rw [decode_bus hd, Params.decodeBus_of_widthAllowed p.widthAllowed_four]

theorem decode_ledAccess (p : Params) (dir : Dir) (offset value : Word) :
    decode p (.bus .led dir offset 4#8 value) = .ok (p.decodeLed dir offset 4#8 value) := by
  rw [decode_bus rfl, Params.decodeBus_of_widthAllowed p.widthAllowed_four]

theorem decode_timerEvent (hd : p.hasDev (.timer k) = true) (code : BitVec 13) (arg : EventArg) :
    decode p (.event (.timer k) code arg) = decodeTimerEvent k code arg := by
  simp only [decode, (p.devReject_eq_none _).mpr hd]

theorem decode_ledEvent (p : Params) (code : BitVec 13) (arg : EventArg) :
    decode p (.event .led code arg) = decodeLedEvent code arg := rfl

/-- R82: the codes above 3 are no timer's. -/
theorem decodeTimerEvent_unlisted (k : Nat) {code : BitVec 13} (h : 3#13 < code) (arg : EventArg) :
    decodeTimerEvent k code arg = .error (.unknownEvent (.timer k) code) := by
  unfold decodeTimerEvent
  rw [if_neg, if_neg, if_neg, if_neg] <;> bv_omega

/-- R82: code 0 and the codes above 4 are not the LED decoder's. -/
theorem decodeLedEvent_unlisted {code : BitVec 13} (h : code = 0#13 ∨ 4#13 < code) (arg : EventArg) :
    decodeLedEvent code arg = .error (.unknownEvent .led code) := by
  unfold decodeLedEvent
  rw [if_neg, if_neg, if_neg, if_neg] <;> bv_omega

/-! ### Decoding an encoded operation -/

/-- R83: the access to a register's own offset is the register's operation. -/
theorem decode_register (hp : p.wf = true) (hd : p.hasDev (.timer k) = true) (r : TimerReg) (dir : Dir)
    (value : Word) :
    decode p (.bus (.timer k) dir (p.offsetOf r) 4#8 value) = .ok (r.instr dir k value) := by
  simp only [decode_timerAccess hd, Params.decodeTimer, Params.timerReg_offsetOf hp r]

/-- R190: the access to the drive word's offset is the drive word's operation. -/
theorem decode_drive (hp : p.wf = true) (dir : Dir) (value : Word) :
    decode p (.bus .led dir p.ledDriveOffset 4#8 value) =
      .ok (match dir with | .read => .rDrive | .write => .wDrive value) := by
  cases dir <;> simp only [decode_ledAccess, Params.decodeLed, Params.isDrive_driveOffset hp]

theorem Instr.wf_iff : i.wf p = true ↔ p.hasDev i.target = true ∧ i.operandsOk p = true := by
  simp only [Instr.wf, Bool.and_eq_true]

/-- The operands of a timer's fallback operation, a read's or a write's: a reserved offset, and the width
transactions are performed with (R64). -/
theorem timerFallback_operandsOk (k : Nat)
    (h : (Instr.tRBadoffset k offset width).operandsOk p = true) :
    p.timerReg offset = none ∧ width = 4#8 := by
  simp only [Instr.operandsOk, Bool.and_eq_true, beq_iff_eq, Params.performedWidth_eq] at h
  obtain ⟨⟨hoff, _⟩, hwidth⟩ := h
  exact ⟨hoff, hwidth.symm⟩

/-- The same of the LED decoder's fallback operations. -/
theorem ledFallback_operandsOk (h : (Instr.lRBadoffset offset width).operandsOk p = true) :
    p.isDrive offset = false ∧ width = 4#8 := by
  simp only [Instr.operandsOk, Bool.and_eq_true, beq_iff_eq, Params.performedWidth_eq,
    Bool.not_eq_true'] at h
  obtain ⟨⟨hoff, _⟩, hwidth⟩ := h
  exact ⟨hoff, hwidth.symm⟩

/-- Settles O1: a register is found at its own offset, a fallback operation's offset is reserved, and every
event carries the operand its code takes. -/
theorem decodeOfEncode : Obligations.DecodeOfEncode := by
  intro p i hp hi
  obtain ⟨hdev, hok⟩ := Instr.wf_iff.mp hi
  cases i with
  | tick | tReset | tSave | tRestore => exact decode_timerEvent hdev _ _
  | lReset | lSave | lRestore | sinkAck => exact decode_ledEvent p _ _
  | wDrive | rDrive => exact decode_drive hp _ _
  | tRBadoffset | tWBadoffset =>
    obtain ⟨hoff, rfl⟩ := timerFallback_operandsOk 0 hok
    exact (decode_timerAccess hdev _ _ _).trans
      (congrArg _ (Params.decodeTimer_of_timerReg_eq_none hoff _ _ _ _))
  | lRBadoffset | lWBadoffset =>
    obtain ⟨hoff, rfl⟩ := ledFallback_operandsOk hok
    exact (decode_ledAccess p _ _ _).trans
      (congrArg _ (Params.decodeLed_of_not_isDrive hoff _ _ _))
  | _ => exact decode_register hp hdev _ _ _

/-! ### The selector of a request (R81) -/

/-- A one-bit field of a selector. -/
theorem selector_bit (sel : BitVec 15) (n : Nat) :
    sel.extractLsb' n 1 = if sel.getLsbD n then 1#1 else 0#1 := by
  apply BitVec.eq_of_getLsbD_eq
  intro j hj
  obtain rfl : j = 0 := by omega
  cases h : sel.getLsbD n <;> simp [h]

/-- R81: the fields E, D, W and OFF of a selector. -/
theorem selector_fields (sel : BitVec 15) :
    sel.extractLsb' 14 1 ++ sel.extractLsb' 13 1 ++ sel.extractLsb' 12 1 ++ sel.extractLsb' 0 12 =
      sel := by
  rw [BitVec.extractLsb'_append_extractLsb'_eq_extractLsb' (by decide),
    BitVec.extractLsb'_append_extractLsb'_eq_extractLsb' (by decide),
    BitVec.extractLsb'_append_extractLsb'_eq_extractLsb' (by decide), BitVec.extractLsb'_eq_self]

/-- R81: the fields E and D of an event's selector, and its code. -/
theorem selector_eventFields (sel : BitVec 15) :
    sel.extractLsb' 14 1 ++ sel.extractLsb' 13 1 ++ sel.extractLsb' 0 13 = sel := by
  rw [BitVec.extractLsb'_append_extractLsb'_eq_extractLsb' (by decide),
    BitVec.extractLsb'_append_extractLsb'_eq_extractLsb' (by decide), BitVec.extractLsb'_eq_self]

/-- R81: a selector and its operands name an access or an event, of a timer or of the LED decoder. -/
theorem Request.ofSelector_cases (o : Operands) (sel : BitVec 15) :
    ∃ dev : Dev, (dev = .timer o.k ∨ dev = .led) ∧
      ((∃ (dir : Dir) (off : BitVec 12), sel = 0#1 ++ dev.bit ++ dir.bit ++ off ∧
          Request.ofSelector o sel = .bus dev dir (off.setWidth 32) o.width o.value) ∨
        ∃ code : BitVec 13, sel = 1#1 ++ dev.bit ++ code ∧
          Request.ofSelector o sel = .event dev code (o.eventArg dev code)) := by
  have hdev : (if sel.getLsbD 13 then Dev.led else .timer o.k).bit = sel.extractLsb' 13 1 := by
    rw [selector_bit]
    split <;> rfl
  have hdir : (if sel.getLsbD 12 then Dir.write else .read).bit = sel.extractLsb' 12 1 := by
    rw [selector_bit]
    split <;> rfl
  have hE := selector_bit sel 14
  refine ⟨if sel.getLsbD 13 then .led else .timer o.k, by split <;> simp, ?_⟩
  cases h : sel.getLsbD 14 with
  | true =>
    rw [h, if_pos rfl] at hE
    exact .inr ⟨sel.extractLsb' 0 13, by rw [hdev, ← hE, selector_eventFields],
      by simp only [Request.ofSelector, h, if_true]⟩
  | false =>
    rw [h, if_neg Bool.false_ne_true] at hE
    exact .inl ⟨if sel.getLsbD 12 then .write else .read, sel.extractLsb' 0 12,
      by rw [hdev, hdir, ← hE, selector_fields],
      by simp only [Request.ofSelector, h, Bool.false_eq_true, if_false]⟩

/-! ### The rows of the opcode table (R90) -/

/-- The rows that are not fallback rows, in the table's order. -/
def namedRows : List OpcodeRow :=
  opcodeRowsTimerTasks ++ opcodeRowsTimerConfig ++ opcodeRowsLedAndEvents

/-- The pattern of a row with every value of the bits its mask leaves free, which are those of the channel
index at most (R83: bits 3:2). -/
def OpcodeRow.words (row : OpcodeRow) : List (BitVec 15) :=
  ([0x0#15, 0x4#15, 0x8#15, 0xC#15].filter (fun free => free &&& row.mask = 0#15)).map
    (row.pattern ||| ·)

/-- Bits 3:2 alone: the channel index of an indexed register's selector (R83). -/
theorem and_channelBits (x : BitVec 15) :
    x &&& 0xC#15 = 0#11 ++ x.extractLsb' 2 2 ++ 0#2 := by
  have hx : x.extractLsb' 4 11 ++ x.extractLsb' 2 2 ++ x.extractLsb' 0 2 = x := by
    rw [BitVec.extractLsb'_append_extractLsb'_eq_extractLsb' (by decide),
      BitVec.extractLsb'_append_extractLsb'_eq_extractLsb' (by decide), BitVec.extractLsb'_eq_self]
  calc x &&& 0xC#15
      = (x.extractLsb' 4 11 ++ x.extractLsb' 2 2 ++ x.extractLsb' 0 2) &&&
          (0#11 ++ BitVec.allOnes 2 ++ 0#2) := by rw [hx]; rfl
    _ = _ := by
      rw [BitVec.and_append, BitVec.and_append, BitVec.and_zero, BitVec.and_zero,
        BitVec.and_allOnes]

/-- The four values of the channel index in its place. -/
theorem and_channelBits_mem (x : BitVec 15) : x &&& 0xC#15 ∈ [0x0#15, 0x4#15, 0x8#15, 0xC#15] := by
  rw [and_channelBits]
  generalize x.extractLsb' 2 2 = index
  revert index
  decide

/-- The words of a row are all its selectors. -/
theorem OpcodeRow.mem_words {row : OpcodeRow} (hmask : ~~~row.mask &&& 0xC#15 = ~~~row.mask)
    (h : sel &&& row.mask = row.pattern) : sel ∈ row.words := by
  refine List.mem_map.mpr ⟨sel &&& ~~~row.mask, List.mem_filter.mpr ⟨?_, ?_⟩, ?_⟩
  · rw [← hmask, ← BitVec.and_assoc]
    exact and_channelBits_mem _
  · simp [BitVec.and_assoc]
  · rw [← h, ← BitVec.and_or_distrib_left, BitVec.or_not_self, BitVec.and_allOnes]

/-- Under the default map the selector names a register, the drive word or a listed event (R82, R83). -/
def namesOperation (sel : BitVec 15) : Bool :=
  let code := sel.extractLsb' 0 13
  let offset : Word := (sel.extractLsb' 0 12).setWidth 32
  if sel.extractLsb' 13 2 = 0b00#2 then (Params.default.timerReg offset).isSome
  else if sel.extractLsb' 13 2 = 0b01#2 then Params.default.isDrive offset
  else if sel.extractLsb' 13 2 = 0b10#2 then decide (code ≤ 3#13)
  else decide (1#13 ≤ code ∧ code ≤ 4#13)

/-- Every mask but the fallback rows' leaves bits 3:2 free at most. -/
theorem namedRows_mask : ∀ row ∈ namedRows, ~~~row.mask &&& 0xC#15 = ~~~row.mask := by decide

/-- Every selector of a row that is no fallback row names an operation. -/
theorem namedRows_words : ∀ row ∈ namedRows, row.words.all namesOperation = true := by decide

/-- R90: a selector that names nothing is left to the fallback rows. -/
theorem tableMnemonic_of_unnamed (h : namesOperation sel = false) :
    tableMnemonic sel = (fallbackRows.find? (fun row => sel &&& row.mask == row.pattern)).map
      OpcodeRow.mnemonic := by
  have hnone : namedRows.find? (fun row => sel &&& row.mask == row.pattern) = none := by
    refine List.find?_eq_none.mpr fun row hrow hmatch => ?_
    have hword := OpcodeRow.mem_words (namedRows_mask row hrow) (beq_iff_eq.mp hmatch)
    exact Bool.false_ne_true (h.symm.trans (List.all_eq_true.mp (namedRows_words row hrow) _ hword))
  change ((namedRows ++ fallbackRows).find? _).map _ = _
  rw [List.find?_append, hnone, Option.none_or]

/-- The fallback rows look at E, D and W only. -/
theorem and_fallbackMask (top : BitVec 3) (off : BitVec 12) :
    (top ++ off : BitVec 15) &&& 0x7000#15 = top ++ 0#12 := by
  change (top ++ off : BitVec 15) &&& (BitVec.allOnes 3 ++ 0#12) = _
  rw [BitVec.and_append, BitVec.and_allOnes, BitVec.and_zero]

/-- R90: the fallback row of an access that names nothing. -/
theorem tableMnemonic_unnamedAccess (top : BitVec 3) (off : BitVec 12)
    (h : namesOperation (top ++ off) = false) :
    tableMnemonic (top ++ off) =
      (fallbackRows.find? (fun row => top ++ 0#12 == row.pattern)).map OpcodeRow.mnemonic := by
  rw [tableMnemonic_of_unnamed h]
  simp only [fallbackRows, List.find?, and_fallbackMask]

/-- What an access names: a timer's register, or the drive word. -/
theorem namesOperation_access (d w : BitVec 1) (off : BitVec 12) :
    namesOperation (0#1 ++ d ++ w ++ off) =
      if d = 0#1 then (Params.default.timerReg (off.setWidth 32)).isSome
      else Params.default.isDrive (off.setWidth 32) := by
  have htop : (0#1 ++ d ++ w ++ off : BitVec 15).extractLsb' 13 2 = 0#1 ++ d :=
    (BitVec.extractLsb'_append_eq_of_le (by decide)).trans BitVec.extractLsb'_append_eq_left
  have hoff : (0#1 ++ d ++ w ++ off : BitVec 15).extractLsb' 0 12 = off :=
    BitVec.extractLsb'_append_eq_right
  simp only [namesOperation, htop, hoff]
  obtain rfl | rfl := BitVec.eq_zero_or_eq_one d <;> rfl

/-- What an event names: the codes of R82. -/
theorem namesOperation_event (d : BitVec 1) (code : BitVec 13) :
    namesOperation (1#1 ++ d ++ code) =
      if d = 0#1 then decide (code ≤ 3#13) else decide (1#13 ≤ code ∧ code ≤ 4#13) := by
  have htop : (1#1 ++ d ++ code : BitVec 15).extractLsb' 13 2 = 1#1 ++ d :=
    BitVec.extractLsb'_append_eq_left
  have hcode : (1#1 ++ d ++ code : BitVec 15).extractLsb' 0 13 = code :=
    BitVec.extractLsb'_append_eq_right
  simp only [namesOperation, htop, hcode]
  obtain rfl | rfl := BitVec.eq_zero_or_eq_one d <;> rfl

/-- The fallback rows ask for E = 0 (R81). -/
theorem fallbackRows_areAccesses :
    ∀ row ∈ fallbackRows, row.mask.getLsbD 14 = true ∧ row.pattern.getLsbD 14 = false := by decide

/-- R90: the fallback rows hold no event. -/
theorem tableMnemonic_unnamedEvent (d : BitVec 1) (code : BitVec 13)
    (h : namesOperation (1#1 ++ d ++ code) = false) :
    tableMnemonic (1#1 ++ d ++ code) = none := by
  rw [tableMnemonic_of_unnamed h, Option.map_eq_none_iff]
  refine List.find?_eq_none.mpr fun row hrow hmatch => ?_
  obtain ⟨hmask, hpattern⟩ := fallbackRows_areAccesses row hrow
  have hE : (1#1 ++ d ++ code : BitVec 15).getLsbD 14 = true := by
    obtain rfl | rfl := BitVec.eq_zero_or_eq_one d <;> exact BitVec.getLsbD_append
  rw [← beq_iff_eq.mp hmatch, BitVec.getLsbD_and, hE, hmask] at hpattern
  exact absurd hpattern (by decide)

/-! ### The table on each form of selector -/

/-- R83: a register's selector is in the row of its operation in that direction. -/
theorem tableMnemonic_register (r : TimerReg) (dir : Dir) (k : Nat) (value : Word) :
    tableMnemonic (0#1 ++ 0#1 ++ dir.bit ++ (Params.default.offsetOf r).extractLsb' 0 12) =
      some (r.instr dir k value).mnemonic := by
  cases r with
  | capture i => match i with | 0 | 1 | 2 | 3 => cases dir <;> rfl
  | cc i => match i with | 0 | 1 | 2 | 3 => cases dir <;> rfl
  | _ => cases dir <;> rfl

/-- A selector's OFF holds a 12-bit offset in full (R81). -/
theorem low12_setWidth (off : BitVec 12) : (off.setWidth 32).extractLsb' 0 12 = off :=
  (BitVec.extractLsb'_setWidth_of_le (by decide)).trans BitVec.extractLsb'_eq_self

/-- R84, R90: an access to a timer. -/
theorem tableMnemonic_timerAccess (dir : Dir) (off : BitVec 12) (k : Nat) (value : Word) :
    tableMnemonic (0#1 ++ 0#1 ++ dir.bit ++ off) =
      some (Params.default.decodeTimer k dir (off.setWidth 32) 4#8 value).mnemonic := by
  cases h : Params.default.timerReg (off.setWidth 32) with
  | some r =>
    have hdecode :
        Params.default.decodeTimer k dir (off.setWidth 32) 4#8 value = r.instr dir k value := by
      simp only [Params.decodeTimer, h]
    rw [hdecode, ← tableMnemonic_register, Params.default.timerReg_offset h, low12_setWidth]
  | none =>
    have hname := tableMnemonic_unnamedAccess (0#1 ++ 0#1 ++ dir.bit) off
      ((namesOperation_access _ _ _).trans (congrArg Option.isSome h))
    rw [Params.decodeTimer_of_timerReg_eq_none h]
    cases dir <;> exact hname

/-- R84, R90: an access to the LED decoder. -/
theorem tableMnemonic_ledAccess (dir : Dir) (off : BitVec 12) (value : Word) :
    tableMnemonic (0#1 ++ 1#1 ++ dir.bit ++ off) =
      some (Params.default.decodeLed dir (off.setWidth 32) 4#8 value).mnemonic := by
  cases h : Params.default.isDrive (off.setWidth 32) with
  | true =>
    simp only [Params.isDrive, Bool.and_eq_true, beq_iff_eq] at h
    obtain ⟨_, hdrive⟩ := h
    obtain rfl : off = 0#12 := by rw [← low12_setWidth off, hdrive]; rfl
    cases dir <;> rfl
  | false =>
    have hname := tableMnemonic_unnamedAccess (0#1 ++ 1#1 ++ dir.bit) off
      ((namesOperation_access _ _ _).trans h)
    rw [Params.decodeLed_of_not_isDrive h]
    cases dir <;> exact hname

/-- The mnemonic of a decoding, where it is an operation. -/
def decodedMnemonic (d : Except Reject Instr) : Option String :=
  match d with
  | .ok i => some i.mnemonic
  | .error _ => none

/-- R82, R90: an event of a timer. -/
theorem tableMnemonic_timerEvent (o : Operands) (code : BitVec 13) :
    tableMnemonic (1#1 ++ 0#1 ++ code) =
      decodedMnemonic (decodeTimerEvent o.k code (o.eventArg (.timer o.k) code)) := by
  by_cases h : 3#13 < code
  · rw [decodeTimerEvent_unlisted _ h, tableMnemonic_unnamedEvent]
    · rfl
    · rw [namesOperation_event, if_pos rfl, decide_eq_false_iff_not]
      bv_omega
  · obtain rfl | rfl | rfl | rfl : code = 0#13 ∨ code = 1#13 ∨ code = 2#13 ∨ code = 3#13 := by
      bv_omega
    all_goals rfl

/-- R82, R90: an event of the LED decoder. -/
theorem tableMnemonic_ledEvent (o : Operands) (code : BitVec 13) :
    tableMnemonic (1#1 ++ 1#1 ++ code) =
      decodedMnemonic (decodeLedEvent code (o.eventArg .led code)) := by
  by_cases h : code = 0#13 ∨ 4#13 < code
  · rw [decodeLedEvent_unlisted h, tableMnemonic_unnamedEvent]
    · rfl
    · rw [namesOperation_event, if_neg (by decide), decide_eq_false_iff_not]
      bv_omega
  · obtain rfl | rfl | rfl | rfl : code = 1#13 ∨ code = 2#13 ∨ code = 3#13 ∨ code = 4#13 := by
      bv_omega
    all_goals rfl

/-- Settles O2: a selector is an access or an event, of a timer or of the LED decoder, and in each form the
row the table finds is that of what R84 decodes. -/
theorem tableDecoderAgreesWithDecode : Obligations.TableDecoderAgreesWithDecode := by
  intro o sel hk hwidth
  change _ = decodedMnemonic _
  have hdev : Params.default.hasDev (.timer o.k) = true := decide_eq_true hk
  obtain ⟨dev, rfl | rfl, ⟨dir, off, hsel, hreq⟩ | ⟨code, hsel, hreq⟩⟩ :=
    Request.ofSelector_cases o sel
  · rw [hreq, hwidth, decode_timerAccess hdev, hsel]
    exact tableMnemonic_timerAccess dir off o.k o.value
  · rw [hreq, decode_timerEvent hdev, hsel]
    exact tableMnemonic_timerEvent o code
  · rw [hreq, hwidth, decode_ledAccess, hsel]
    exact tableMnemonic_ledAccess dir off o.value
  · rw [hreq, decode_ledEvent, hsel]
    exact tableMnemonic_ledEvent o code

/-! ### The row of an encoded operation -/

/-- The row the table finds for an operation's selector, by its mnemonic, holds the selector. -/
theorem row_of_tableMnemonic (hs : i.selector Params.default = some sel)
    (ht : tableMnemonic sel = some i.mnemonic) :
    ∃ (sel : BitVec 15) (row : OpcodeRow),
      i.selector Params.default = some sel ∧ row ∈ opcodeTable ∧
      row.mnemonic = i.mnemonic ∧ sel &&& row.mask = row.pattern := by
  obtain ⟨row, hrow, hname⟩ := Option.map_eq_some_iff.mp ht
  exact ⟨sel, row, hs, List.mem_of_find?_eq_some hrow, hname, beq_iff_eq.mp (List.find?_some hrow :)⟩

/-- Settles O3: the table finds the row of a register, the drive word or an event by its selector; a fallback
row's mask leaves the offset free. -/
theorem encodedSelectorIsInItsRow : Obligations.EncodedSelectorIsInItsRow := by
  intro i _
  cases i with
  | wDrive | rDrive | lReset | lSave | lRestore | sinkAck => exact row_of_tableMnemonic rfl rfl
  | tick => exact row_of_tableMnemonic (sel := 1#1 ++ 0#1 ++ 0#13) rfl rfl
  | tReset => exact row_of_tableMnemonic (sel := 1#1 ++ 0#1 ++ 1#13) rfl rfl
  | tSave => exact row_of_tableMnemonic (sel := 1#1 ++ 0#1 ++ 2#13) rfl rfl
  | tRestore => exact row_of_tableMnemonic (sel := 1#1 ++ 0#1 ++ 3#13) rfl rfl
  | tRBadoffset =>
    exact ⟨_, fallbackRows[0], rfl, by decide, rfl, and_fallbackMask (0#1 ++ 0#1 ++ 0#1) _⟩
  | tWBadoffset =>
    exact ⟨_, fallbackRows[1], rfl, by decide, rfl, and_fallbackMask (0#1 ++ 0#1 ++ 1#1) _⟩
  | lRBadoffset =>
    exact ⟨_, fallbackRows[2], rfl, by decide, rfl, and_fallbackMask (0#1 ++ 1#1 ++ 0#1) _⟩
  | lWBadoffset =>
    exact ⟨_, fallbackRows[3], rfl, by decide, rfl, and_fallbackMask (0#1 ++ 1#1 ++ 1#1) _⟩
  | _ => exact row_of_tableMnemonic rfl (tableMnemonic_register _ _ 0 0#32)

/-- Settles O4: the seven words are closed terms. -/
theorem writtenOutSelectorsDecode : Obligations.WrittenOutSelectorsDecode := by
  unfold Obligations.WrittenOutSelectorsDecode
  decide

/-- Settles O7: the listed codes and the image load by computation, the others as no code of their device; an
event's code is its selector's low bits. -/
theorem hostEventCodes : Obligations.HostEventCodes := by
  intro p k code arg trec lrec front back hk
  have hdev : p.hasDev (.timer k) = true := decide_eq_true hk
  refine ⟨decode_timerEvent hdev _ _, decode_timerEvent hdev _ _, decode_timerEvent hdev _ _,
    decode_timerEvent hdev _ _, rfl, rfl, rfl, rfl, fun h => ?_,
    fun h => decodeLedEvent_unlisted h arg, ?_, ?_, rfl⟩
  · rw [decode_timerEvent hdev, decodeTimerEvent_unlisted k h]
  · exact congrArg some (BitVec.append_def (1#1 ++ 0#1) code)
  · exact congrArg some (BitVec.append_def (1#1 ++ 1#1) code)

/-! ### The unimplemented offsets -/

/-- R84, R243: an offset of `UNIMPL_OFFSETS` counts where it is aligned and in the window. -/
theorem Params.isUnimplemented_iff : p.isUnimplemented offset = true ↔
    (offset.toNat < p.windowSize ∧ offset.toNat % 4 = 0) ∧ offset ∈ p.unimplOffsets := by
  rw [← p.addressable_iff, Params.isUnimplemented, Bool.and_eq_true, List.contains_iff_mem]

end Sys2Proof

namespace Sys2Proof.Machine

/-- Settles O59: the fallback operations keep all of the timer but its list, and the record they append there
is the unimplemented one. -/
theorem timerUnimplementedOffset : Obligations.TimerUnimplementedOffset := by
  intro s k off v w t ht hmem hwindow haligned
  have himpl := Params.isUnimplemented_iff.mpr ⟨⟨hwindow, haligned⟩, hmem⟩
  have hread : timerReadDiag s.params k off w = .unimplementedRead (.timer k) off := if_pos himpl
  have hwrite : timerWriteDiag s.params k off v w = .unimplementedWrite (.timer k) off v :=
    if_pos himpl
  refine ⟨?_, ?_, rfl⟩
  · rw [← hread]
    exact exec_timer (i := .tRBadoffset k off w) rfl ht rfl
  · rw [← hwrite]
    exact exec_timer (i := .tWBadoffset k off v w) rfl ht rfl

end Sys2Proof.Machine

/-!
PROOFS. The statements about the timer tasks and the timer state machine (40_timer_tasks.md): the run state
under every operation (R120), the counter of an Idle timer (R121), what each task writes, and what the
registers read as.
-/

namespace Sys2Proof.Machine

variable {i : Instr} {s s' : State} {k : Nat} {t t' u : Timer} {p : Params}

/-! ### The run state after each update of a timer -/

/-- R27: the run state is a function of `running` and `pulsedStop`. -/
theorem Timer.runState_congr (hr : u.running = t.running) (hp : u.pulsedStop = t.pulsedStop) :
    u.runState = t.runState := by
  simp only [Timer.runState, hr, hp]

theorem Timer.runState_of_running (h : t.running = true) : t.runState = .running := by
  simp only [Timer.runState, h]

@[simp] theorem Timer.start_runState (p : Params) (t : Timer) : (t.start p).runState = .running := by
  unfold Timer.start
  split <;> rfl

/-- R113. -/
theorem Timer.stop_of_running (h : t.running = true) :
    t.stop = { t with running := false, pulsedStop := true } :=
  if_pos h

/-- R114. -/
theorem Timer.stop_of_not_running (h : t.running = false) : t.stop = t :=
  if_neg (ne_true_of_eq_false h)

/-- R113, R114: a STOP pauses a running timer and keeps any other run state. -/
theorem Timer.stop_runState (t : Timer) :
    t.stop.runState = if t.runState = .running then .paused else t.runState := by
  cases hr : t.running with
  | true => rw [Timer.stop_of_running hr, Timer.runState_of_running hr, if_pos rfl]; rfl
  | false =>
    have hne : t.runState ≠ .running := by
      cases hp : t.pulsedStop <;> simp [Timer.runState, hr, hp]
    rw [Timer.stop_of_not_running hr, if_neg hne]

@[simp] theorem Timer.shutdown_runState (t : Timer) : t.shutdown.runState = .idle := rfl

@[simp] theorem Timer.reset_runState (p : Params) (t : Timer) : (t.reset p).runState = .idle := rfl

@[simp] theorem Timer.tick_runState (t : Timer) : t.tick.runState = t.runState := by
  obtain ⟨_, _, _, he⟩ := t.tick_eq
  exact he ▸ rfl

@[simp] theorem Timer.writeLimit_runState (t : Timer) (v : Word) :
    (t.writeLimit v).runState = t.runState :=
  t.writeLimit_eq v ▸ rfl

/-! ### The transitions of the run state -/

/-- R120: the operations that write the run state. -/
theorem timerAfter_runState_ne (hi : i.target = .timer k)
    (h : (timerAfter p i t).runState ≠ t.runState) :
    (∃ v, i = .wStart k v) ∨ (∃ v, i = .wStop k v) ∨ (∃ v, i = .wShutdown k v) ∨ i = .tReset k ∨
    ∃ rec, i = .tRestore k rec := by
  cases i with
  | wStart _ v => cases hi; exact .inl ⟨v, rfl⟩
  | wStop _ v => cases hi; exact .inr (.inl ⟨v, rfl⟩)
  | wShutdown _ v => cases hi; exact .inr (.inr (.inl ⟨v, rfl⟩))
  | tReset => cases hi; exact .inr (.inr (.inr (.inl rfl)))
  | tRestore _ rec => cases hi; exact .inr (.inr (.inr (.inr ⟨rec, rfl⟩)))
  | tick => exact absurd t.tick_runState h
  | wLimit _ v => exact absurd (t.writeLimit_runState v) h
  | _ => exact absurd rfl h

/-- The timer an operation addresses becomes `timerAfter` of it. -/
theorem exec_next_target (h : exec i s = .next s') (hi : i.target = .timer k)
    (ht : s.timers[k]? = some t) (ht' : s'.timers[k]? = some t') :
    timerPerforms i t = true ∧ t' = timerAfter s.params i t := by
  obtain ⟨v, hv, hp, rfl⟩ := exec_timer_next hi h
  obtain rfl : v = t := by simpa [hv] using ht
  rw [State.respond_timers, State.putTimer_get hv] at ht'
  exact ⟨hp, by simpa using ht'.symm⟩

/-- Settles O24: START, STOP, SHUTDOWN and RESET by what they leave of the timer, a TICK by its condition,
and no other operation but RESTORE writes the run state. -/
theorem runStateTransitions : Obligations.RunStateTransitions := by
  intro s k t i s' t' ht _ h ht'
  refine ⟨?_, ?_, ?_, ?_, ?_⟩
  · rintro ⟨v, rfl⟩
    obtain ⟨_, rfl⟩ := exec_next_target h rfl ht ht'
    exact t.start_runState _
  · rintro ⟨v, rfl⟩
    obtain ⟨_, rfl⟩ := exec_next_target h rfl ht ht'
    refine t.stop_runState.trans ?_
    cases t.runState <;> rfl
  · rintro (⟨v, rfl⟩ | rfl)
    · obtain ⟨_, rfl⟩ := exec_next_target h rfl ht ht'
      exact t.shutdown_runState
    · obtain ⟨_, rfl⟩ := exec_next_target h rfl ht ht'
      exact t.reset_runState _
  · rintro rfl
    obtain ⟨hrun, rfl⟩ := exec_next_target h rfl ht ht'
    have hstate : t.runState = .running := Timer.runState_of_running hrun
    exact ⟨hstate, t.tick_runState.trans hstate⟩
  · intro hstart hstop hshutdown hreset hrestore
    obtain rfl | ⟨hi, _, rfl⟩ := exec_next_timer h ht ht'
    · rfl
    · by_contra hne
      obtain ⟨v, he⟩ | ⟨v, he⟩ | ⟨v, he⟩ | he | ⟨rec, he⟩ := timerAfter_runState_ne hi hne
      · exact hstart v he
      · exact hstop v he
      · exact hshutdown v he
      · exact hreset he
      · exact hrestore rec he

/-! ### The counter of an Idle timer -/

/-- R121 (b) of one timer. -/
def Timer.IdleZero (t : Timer) : Prop :=
  t.runState = .idle → t.liveCounter = 0#32

theorem Timer.idleZero_of_running (h : t.runState = .running) : t.IdleZero := by
  intro hidle
  simp [h] at hidle

theorem Timer.idleZero_of_counter (h : t.liveCounter = 0#32) : t.IdleZero :=
  fun _ => h

/-- A STOP makes no timer Idle, and keeps the counter. -/
theorem Timer.stop_idleZero (h : t.IdleZero) : t.stop.IdleZero := by
  cases hr : t.running with
  | true => rw [Timer.stop_of_running hr]; exact nofun
  | false => rwa [Timer.stop_of_not_running hr]

/-- The exception of R121: no other record restores an Idle timer with a nonzero counter. -/
theorem Timer.restore_idleZero {rec : TimerRecord}
    (h : (Instr.tRestore k rec).keepsIdleZero = true) (t : Timer) : (t.restore rec).IdleZero := by
  intro hidle
  simp only [Instr.keepsIdleZero, Bool.or_eq_true, beq_iff_eq] at h
  obtain (hr | hp) | hc := h
  · simp [Timer.runState, Timer.restore, hr] at hidle
  · cases hr : rec.running <;> simp [Timer.runState, Timer.restore, hr, hp] at hidle
  · exact hc

theorem timerAfter_idleZero (p : Params) (hi : i.keepsIdleZero = true)
    (hp : timerPerforms i t = true) (h : t.IdleZero) : (timerAfter p i t).IdleZero := by
  cases i with
  | wStart => exact Timer.idleZero_of_running (t.start_runState p)
  | wStop => exact Timer.stop_idleZero h
  | wLimit _ v => rw [timerAfter, Timer.writeLimit_eq]; exact h
  | wClear => exact Timer.idleZero_of_counter rfl
  | wShutdown => exact Timer.idleZero_of_counter rfl
  | tick => exact Timer.idleZero_of_running (t.tick_runState.trans (Timer.runState_of_running hp))
  | tReset => exact Timer.idleZero_of_counter rfl
  | tRestore => exact Timer.restore_idleZero hi t
  | _ => exact h

/-- A property of every timer that `timerAfter` keeps holds of every timer after an operation. -/
theorem exec_keeps_timers {P : Timer → Prop} (hs : ∀ t ∈ s.timers, P t)
    (hstep : ∀ t, timerPerforms i t = true → P t → P (timerAfter s.params i t))
    (h : exec i s = .next s') : ∀ t ∈ s'.timers, P t := by
  intro t' hmem
  obtain ⟨k, hi⟩ | hi := i.target_cases
  · obtain ⟨t, ht, hp, rfl⟩ := exec_timer_next hi h
    obtain hmem | rfl := List.mem_or_eq_of_mem_set hmem
    · exact hs t' hmem
    · exact hstep t hp (hs t (List.mem_of_getElem? ht))
  · obtain ⟨_, rfl⟩ := exec_led_next hi h
    exact hs t' hmem

/-- Settles O12: each operation keeps the property of the timer it addresses. -/
theorem operationsKeepIdleCounterZero : Obligations.OperationsKeepIdleCounterZero := by
  intro s s' i hs hi h
  exact exec_keeps_timers (P := Timer.IdleZero) hs (fun _ => timerAfter_idleZero s.params hi) h

/-! ### The selectors -/

/-- R81, R83: the selector of an access to a register under the default map. -/
theorem selector_register {sel : BitVec 15} (r : TimerReg) (dir : Dir) (k : Nat) (value : Word)
    (h : 0#1 ++ 0#1 ++ dir.bit ++ (Params.default.offsetOf r).extractLsb' 0 12 = sel) :
    (r.instr dir k value).selector Params.default = some sel := by
  subst h
  cases r <;> cases dir <;> rfl

/-! ### The tasks -/

/-- Settles O26: the resuming Start. -/
theorem startResumesWithoutLatch : Obligations.StartResumesWithoutLatch := by
  intro s k v t ht hpaused
  rw [← Timer.start_of_paused s.params hpaused]
  exact exec_timer (i := .wStart k v) rfl ht rfl

/-- Settles O27: a STOP pauses a running timer and keeps any other. -/
theorem stopPausesOrChangesNothing : Obligations.StopPausesOrChangesNothing := by
  intro s k v t ht
  refine ⟨fun hr => ?_, fun hr => ?_, selector_register .stop .write k v rfl⟩
  · rw [← Timer.stop_of_running hr]
    exact exec_timer (i := .wStop k v) rfl ht rfl
  · exact exec_timer_of_kept (i := .wStop k v) rfl ht rfl (Timer.stop_of_not_running hr)

/-- Settles O28: the active limit after a CLEAR is the reload's. -/
theorem clearZeroesTheCounter : Obligations.ClearZeroesTheCounter := by
  intro s k v t ht
  rw [← Timer.reloadValue_eq]
  exact ⟨exec_timer (i := .wClear k v) rfl ht rfl, selector_register .clear .write k v rfl⟩

/-- Settles O29: the active limit after a SHUTDOWN is the reload's. -/
theorem shutdownGoesIdle : Obligations.ShutdownGoesIdle := by
  intro s k v t ht
  rw [← Timer.reloadValue_eq]
  exact ⟨exec_timer (i := .wShutdown k v) rfl ht rfl, selector_register .shutdown .write k v rfl⟩

/-- Settles O30: the channels after a CAPTURE write are the old ones with channel `i` set to the counter. -/
theorem captureWriteSnapshots : Obligations.CaptureWriteSnapshots := by
  intro s k i v t ht
  exact ⟨t.captureChannel.set i t.liveCounter, exec_timer (i := .wCapture k i v) rfl ht rfl,
    fun j => Quad.get_set _ i j _,
    selector_register (.capture i) .write k v (by revert i; decide)⟩

/-! ### The registers read -/

/-- Settles O31: a task register's read keeps its timer and returns 0. -/
theorem taskRegistersReadZero : Obligations.TaskRegistersReadZero := by
  intro s k i hi hk
  have ht : s.timers[k]? = some s.timers[k] := List.getElem?_eq_getElem hk
  refine ⟨?_, selector_register .start .read k 0#32 rfl, selector_register .stop .read k 0#32 rfl,
    selector_register .clear .read k 0#32 rfl, selector_register .shutdown .read k 0#32 rfl⟩
  simp only [List.mem_cons, List.not_mem_nil, or_false] at hi
  rcases hi with rfl | rfl | rfl | rfl <;> exact exec_timer_of_kept rfl ht rfl rfl

/-- R141. -/
theorem modeWord_eq (m : TimerMode) : modeWord m = if m = .counter then 1#32 else 0#32 := by
  cases m <;> rfl

/-- Settles O32: each read returns its field of the timer, widened to 32 bits. -/
theorem registerReads : Obligations.RegisterReads := by
  intro s k ch t ht
  rw [← modeWord_eq, BitVec.ofNat_toNat, BitVec.ofNat_toNat]
  exact ⟨readTimer_of_some ht _, readTimer_of_some ht _, readTimer_of_some ht _,
    readTimer_of_some ht _, readTimer_of_some ht _, readTimer_of_some ht _,
    selector_register (.capture ch) .read k 0#32 (by revert ch; decide),
    selector_register .mode .read k 0#32 rfl,
    selector_register .bitmode .read k 0#32 rfl,
    selector_register .prescaler .read k 0#32 rfl,
    selector_register .limit .read k 0#32 rfl,
    selector_register (.cc ch) .read k 0#32 (by revert ch; decide)⟩

end Sys2Proof.Machine

/-!
PROOFS. The statements about the configuration, compare and interrupt-enable registers
(41_timer_config.md): what each write stores and keeps, and what INTENSET and INTENCLR read as.
-/

namespace Sys2Proof.Machine

variable {t : Timer}

/-! ### MODE, LIMIT and the enable bits as field updates -/

/-- R40, R140: the limit is reloaded by the mode just selected. -/
theorem Timer.writeMode_eq (t : Timer) (v : Word) :
    t.writeMode v = { t with
      mode := if v.toNat % 2 = 1 then .counter else .timer
      activeLimit := if v.toNat % 2 = 1 then t.softwareLimit else 0#32 } := by
  unfold Timer.writeMode
  rw [modeField_eq]
  split <;> rfl

/-- R147: in COUNTER mode. -/
theorem Timer.writeLimit_of_counter (h : t.mode = .counter) (v : Word) :
    t.writeLimit v = { t with softwareLimit := v, activeLimit := v } := by
  simp [Timer.writeLimit_eq, h]

/-- R147: in TIMER mode. -/
theorem Timer.writeLimit_of_timer (h : t.mode = .timer) (v : Word) : t.writeLimit v = t := by
  simp [Timer.writeLimit, h]

/-- R151. -/
theorem Timer.enable_getLsbD (p : Params) (t : Timer) (v : Word) {j : Nat} (h : j < 4) :
    (t.enable p v).interruptEnableMask.getLsbD j =
      (t.interruptEnableMask.getLsbD j || v.getLsbD (p.intenShift + j)) := by
  simp only [Timer.enable, BitVec.getLsbD_or, intenField_getLsbD p v h]

/-- R152. -/
theorem Timer.disable_getLsbD (p : Params) (t : Timer) (v : Word) {j : Nat} (h : j < 4) :
    (t.disable p v).interruptEnableMask.getLsbD j =
      (t.interruptEnableMask.getLsbD j && !v.getLsbD (p.intenShift + j)) := by
  simp only [Timer.disable, BitVec.getLsbD_and, BitVec.getLsbD_not, h, intenField_getLsbD p v h,
    decide_true, Bool.true_and]

/-- R153: the left shift multiplies by `2 ^ INTEN_SHIFT` within the word. -/
theorem intenWord_toNat (p : Params) (mask : BitVec 4) :
    (intenWord p mask).toNat = mask.toNat * 2 ^ p.intenShift % 2 ^ 32 := by
  have hmask : mask.toNat < 2 ^ 32 := Nat.lt_trans mask.isLt (by decide)
  rw [intenWord, BitVec.toNat_shiftLeft, Nat.shiftLeft_eq, BitVec.toNat_setWidth,
    Nat.mod_eq_of_lt hmask]

/-! ### The registers written and read -/

/-- Settles O34: the reload follows the mode just written. -/
theorem modeWriteReloads : Obligations.ModeWriteReloads := by
  intro s k v t ht
  rw [← Timer.writeMode_eq]
  exact ⟨exec_timer (i := .wMode k v) rfl ht rfl, selector_register .mode .write k v rfl⟩

/-- Settles O36: a LIMIT write is an update in COUNTER mode and keeps the timer in TIMER mode. -/
theorem limitWrite : Obligations.LimitWrite := by
  intro s k v t ht
  refine ⟨fun hm => ?_, fun hm => ?_, selector_register .limit .write k v rfl⟩
  · rw [← Timer.writeLimit_of_counter hm]
    exact exec_timer (i := .wLimit k v) rfl ht rfl
  · exact exec_timer_of_kept (i := .wLimit k v) rfl ht rfl (Timer.writeLimit_of_timer hm v)

/-- Settles O37: the channels after a CC write are the old ones with channel `i` set to the value. -/
theorem compareWrite : Obligations.CompareWrite := by
  intro s k i v t ht
  exact ⟨t.compareChannel.set i v, exec_timer (i := .wCc k i v) rfl ht rfl,
    fun j => Quad.get_set _ i j _,
    selector_register (.cc i) .write k v (by revert i; decide)⟩

/-- Settles O38: the masks after the two writes, bit by bit. -/
theorem interruptEnableWrites : Obligations.InterruptEnableWrites := by
  intro s k v t ht
  exact ⟨(t.enable s.params v).interruptEnableMask, (t.disable s.params v).interruptEnableMask,
    exec_timer (i := .wIntenset k v) rfl ht rfl, exec_timer (i := .wIntenclr k v) rfl ht rfl,
    fun _ hj => ⟨t.enable_getLsbD s.params v hj, t.disable_getLsbD s.params v hj⟩,
    selector_register .intenset .write k v rfl, selector_register .intenclr .write k v rfl⟩

/-- Settles O33: both reads return the one word of the enable mask. -/
theorem interruptEnableReads : Obligations.InterruptEnableReads := by
  intro s k t ht
  exact ⟨intenWord s.params t.interruptEnableMask, readTimer_of_some ht _, readTimer_of_some ht _,
    intenWord_toNat _ _, selector_register .intenset .read k 0#32 rfl,
    selector_register .intenclr .read k 0#32 rfl⟩

/-- Settles O35: the two stored fields are the low bits of the value. -/
theorem bitmodeAndPrescalerWrites : Obligations.BitmodeAndPrescalerWrites := by
  intro s k v t ht
  rw [← bitmodeField_eq, ← prescalerField_eq]
  exact ⟨exec_timer (i := .wBitmode k v) rfl ht rfl, exec_timer (i := .wPrescaler k v) rfl ht rfl,
    selector_register .bitmode .write k v rfl, selector_register .prescaler .write k v rfl⟩

end Sys2Proof.Machine

/-!
PROOFS. The statements about the tick engine (42_tick_engine.md): the one operation without a step, what a
tick does in each mode, and what a run of ticks comes to. The counter of a run is a remainder by the number of
ticks it wraps after (`Timer.wrapAt`), in either mode and wherever the limit lies.
-/

namespace Sys2Proof.Machine

variable {s : State} {k : Nat} {t : Timer}

/-! ### One tick -/

/-- Settles O16: of the operations that are not performed, a malformed RESTORE and an operation on a missing
instance are refused. -/
theorem onlyTickOfStoppedTimerHasNoStep : Obligations.OnlyTickOfStoppedTimerHasNoStep := by
  intro s i f
  refine ⟨fun h => ?_, ?_⟩
  · obtain ⟨k, hi⟩ | hi := i.target_cases
    · cases ht : s.timers[k]? with
      | none => obtain he | ⟨_, _, _, he⟩ := exec_timer_none hi ht <;> simp [he] at h
      | some t =>
        cases hp : timerPerforms i t with
        | true => simp [exec_timer hi ht hp] at h
        | false =>
          obtain ⟨rfl, he⟩ | ⟨_, _, _, he⟩ := exec_timer_not hi ht hp
          · exact ⟨k, t, rfl, by simpa [he] using h.symm, ht, hp⟩
          · simp [he] at h
    · cases hp : ledPerforms i with
      | true => simp [exec_led hi hp] at h
      | false => simp [exec_led_not hp] at h
  · rintro ⟨k, t, rfl, rfl, ht, hr⟩
    exact execTick_of_stopped ht hr

/-- Settles O39: step 1 and the compare with the limit. -/
theorem tickInCounterMode : Obligations.TickInCounterMode := by
  intro s k t ht hr hmode
  rw [← Timer.tick_of_counter hmode]
  exact execTick_of_running ht hr

/-- R171: in TIMER mode the channel loop follows step 1. -/
theorem Timer.tick_of_timer (h : t.mode = .timer) : t.tick = t.count.evalChannels := by
  simp only [Timer.tick, h]

/-- Settles O40: the channel loop's result on the timer that step 1 leaves. -/
theorem tickInTimerMode : Obligations.TickInTimerMode := by
  intro s k t ht hr hmode
  obtain ⟨ev, he, hev⟩ := t.count.evalChannels_eq
  refine ⟨ev, (execTick_of_running ht hr).trans ?_, hev⟩
  rw [Timer.tick_of_timer hmode, he]
  rfl

/-! ### How a tick counts -/

/-- The number of ticks from a counter of 0 back to 0: the limit, where COUNTER mode can meet it
(R176 a), otherwise the latched mask plus 1 (R173, R176 c). -/
def Timer.wrapAt (t : Timer) : Nat :=
  if t.mode = .counter ∧ t.softwareLimit ≤ t.latchedMask then t.softwareLimit.toNat
  else t.latchedMask.toNat + 1

theorem Timer.wrapAt_of_timer (h : t.mode = .timer) : t.wrapAt = t.latchedMask.toNat + 1 := by
  simp [Timer.wrapAt, h]

theorem Timer.wrapAt_of_limit_le (h : t.mode = .counter) (hl : t.softwareLimit ≤ t.latchedMask) :
    t.wrapAt = t.softwareLimit.toNat :=
  if_pos ⟨h, hl⟩

theorem Timer.wrapAt_of_lt_limit (hl : t.latchedMask < t.softwareLimit) :
    t.wrapAt = t.latchedMask.toNat + 1 :=
  if_neg fun ⟨_, hle⟩ => BitVec.not_le.mpr hl hle

/-- R172: the counter meets the limit exactly where the limit is within the mask and the count wraps. -/
theorem Timer.count_eq_limit_iff (hmask : t.latchedMask ∈ counterMasks) (hmode : t.mode = .counter)
    (hc : t.liveCounter.toNat < t.wrapAt) :
    (t.liveCounter + 1#32) &&& t.latchedMask = t.softwareLimit ↔
      t.softwareLimit ≤ t.latchedMask ∧ (t.liveCounter.toNat + 1) % t.wrapAt = 0 := by
  rw [← BitVec.toNat_inj, succ_and_mask_toNat hmask]
  by_cases hl : t.softwareLimit ≤ t.latchedMask
  · rw [Timer.wrapAt_of_limit_le hmode hl] at hc ⊢
    have hle := BitVec.le_def.mp hl
    rw [Nat.mod_eq_of_lt (by omega)]
    refine ⟨fun h => ⟨hl, by rw [h, Nat.mod_self]⟩, fun ⟨_, h⟩ => ?_⟩
    exact Nat.le_antisymm hc (Nat.le_of_dvd (Nat.succ_pos _) (Nat.dvd_of_mod_eq_zero h))
  · have hlt := BitVec.lt_def.mp (BitVec.not_le.mp hl)
    have hmod : (t.liveCounter.toNat + 1) % (t.latchedMask.toNat + 1) < t.latchedMask.toNat + 1 :=
      Nat.mod_lt _ (Nat.succ_pos _)
    exact ⟨fun h => by omega, fun ⟨h, _⟩ => absurd h hl⟩

/-- In COUNTER mode a tick leaves the line high exactly where it met the limit. -/
theorem Timer.tick_interruptLine_of_counter (hmask : t.latchedMask ∈ counterMasks)
    (hmode : t.mode = .counter) (hc : t.liveCounter.toNat < t.wrapAt) :
    t.tick.interruptLine =
      decide (t.softwareLimit ≤ t.latchedMask ∧ (t.liveCounter.toNat + 1) % t.wrapAt = 0) := by
  rw [Timer.tick_of_counter hmode, ← decide_eq_decide.mpr (Timer.count_eq_limit_iff hmask hmode hc)]
  split
  · next h => exact (decide_eq_true h).symm
  · next h => exact (decide_eq_false h).symm

/-- A tick counts by 1 modulo `wrapAt`. -/
theorem Timer.tick_liveCounter_toNat (hmask : t.latchedMask ∈ counterMasks)
    (hc : t.liveCounter.toNat < t.wrapAt) :
    t.tick.liveCounter.toNat = (t.liveCounter.toNat + 1) % t.wrapAt := by
  have hcount := succ_and_mask_toNat hmask t.liveCounter
  cases hmode : t.mode with
  | timer => rw [Timer.tick_liveCounter_of_timer hmode, hcount, Timer.wrapAt_of_timer hmode]
  | counter =>
    have hmet := Timer.count_eq_limit_iff hmask hmode hc
    rw [Timer.tick_of_counter hmode]
    split
    · next h => exact (hmet.mp h).2.symm
    · next h =>
      refine hcount.trans ?_
      by_cases hl : t.softwareLimit ≤ t.latchedMask
      · have hle := BitVec.le_def.mp hl
        have hw := Timer.wrapAt_of_limit_le hmode hl
        have hne : t.liveCounter.toNat + 1 ≠ t.wrapAt :=
          fun he => h (hmet.mpr ⟨hl, by rw [he, Nat.mod_self]⟩)
        rw [Nat.mod_eq_of_lt (by omega), Nat.mod_eq_of_lt (by omega)]
      · rw [Timer.wrapAt_of_lt_limit (BitVec.not_le.mp hl)]

/-! ### Ticks in a row -/

/-- Ticks in a row leave every field but the counter, the line and the event counters (R179). -/
theorem Timer.iterate_tick_eq (t : Timer) (n : Nat) :
    ∃ c line ev, Timer.tick^[n] t =
      { t with liveCounter := c, interruptLine := line, compareEvents := ev } := by
  induction n with
  | zero => exact ⟨t.liveCounter, t.interruptLine, t.compareEvents, rfl⟩
  | succ n ih =>
    obtain ⟨_, _, _, hn⟩ := ih
    obtain ⟨c, line, ev, h⟩ := (Timer.tick^[n] t).tick_eq
    refine ⟨c, line, ev, ?_⟩
    rw [Function.iterate_succ_apply', h, hn]

@[simp] theorem Timer.iterate_tick_mode (t : Timer) (n : Nat) : (Timer.tick^[n] t).mode = t.mode := by
  obtain ⟨_, _, _, h⟩ := t.iterate_tick_eq n
  rw [h]

@[simp] theorem Timer.iterate_tick_softwareLimit (t : Timer) (n : Nat) :
    (Timer.tick^[n] t).softwareLimit = t.softwareLimit := by
  obtain ⟨_, _, _, h⟩ := t.iterate_tick_eq n
  rw [h]

@[simp] theorem Timer.iterate_tick_latchedMask (t : Timer) (n : Nat) :
    (Timer.tick^[n] t).latchedMask = t.latchedMask := by
  obtain ⟨_, _, _, h⟩ := t.iterate_tick_eq n
  rw [h]

@[simp] theorem Timer.iterate_tick_wrapAt (t : Timer) (n : Nat) :
    (Timer.tick^[n] t).wrapAt = t.wrapAt := by
  simp [Timer.wrapAt]

@[simp] theorem Timer.tick_running (t : Timer) : t.tick.running = t.running := by
  obtain ⟨_, _, _, h⟩ := t.tick_eq
  rw [h]

/-- Ticks in a row of a running timer are all performed. -/
theorem execAll_ticks (n : Nat) (ht : s.timers[k]? = some t) (hr : t.running = true) :
    ∃ s', execAll (List.replicate n (.tick k)) s = .next s' ∧
      s'.timers[k]? = some (Timer.tick^[n] t) := by
  induction n generalizing s t with
  | zero => exact ⟨s, rfl, ht⟩
  | succ n ih =>
    have hstep : exec (.tick k) s = .next ((s.putTimer k t.tick).respond .nothing) :=
      execTick_of_running ht hr
    simp only [List.replicate_succ, execAll, hstep]
    exact ih (State.putTimer_get ht t.tick) (t.tick_running.trans hr)

/-- A counter below `wrapAt` stays there. -/
theorem Timer.iterate_tick_lt_wrapAt (hmask : t.latchedMask ∈ counterMasks)
    (hc : t.liveCounter.toNat < t.wrapAt) (n : Nat) :
    (Timer.tick^[n] t).liveCounter.toNat < (Timer.tick^[n] t).wrapAt := by
  induction n with
  | zero => exact hc
  | succ n ih =>
    rw [Timer.iterate_tick_wrapAt, Function.iterate_succ_apply',
      Timer.tick_liveCounter_toNat (by simpa using hmask) ih, Timer.iterate_tick_wrapAt]
    exact Nat.mod_lt _ (Nat.zero_lt_of_lt hc)

/-- Ticks in a row count modulo `wrapAt`. -/
theorem Timer.iterate_tick_liveCounter (hmask : t.latchedMask ∈ counterMasks)
    (hc : t.liveCounter.toNat < t.wrapAt) (n : Nat) :
    (Timer.tick^[n] t).liveCounter.toNat = (t.liveCounter.toNat + n) % t.wrapAt := by
  induction n with
  | zero => exact (Nat.mod_eq_of_lt hc).symm
  | succ n ih =>
    have hcn := Timer.iterate_tick_lt_wrapAt hmask hc n
    rw [Function.iterate_succ_apply', Timer.tick_liveCounter_toNat (by simpa using hmask) hcn, ih,
      Timer.iterate_tick_wrapAt, Nat.mod_add_mod, Nat.add_assoc]

/-- R177: the line after ticks in a row in COUNTER mode is that of the last one. -/
theorem Timer.iterate_tick_interruptLine (hmask : t.latchedMask ∈ counterMasks)
    (hmode : t.mode = .counter) (hc : t.liveCounter.toNat < t.wrapAt) {n : Nat} (hn : n ≠ 0) :
    (Timer.tick^[n] t).interruptLine =
      decide (t.softwareLimit ≤ t.latchedMask ∧ (t.liveCounter.toNat + n) % t.wrapAt = 0) := by
  obtain ⟨m, rfl⟩ := Nat.exists_eq_succ_of_ne_zero hn
  have hcm := Timer.iterate_tick_lt_wrapAt hmask hc m
  rw [Function.iterate_succ_apply',
    Timer.tick_interruptLine_of_counter (by simpa using hmask) (by simpa using hmode) hcm,
    Timer.iterate_tick_liveCounter hmask hc, Timer.iterate_tick_softwareLimit,
    Timer.iterate_tick_latchedMask, Timer.iterate_tick_wrapAt, Nat.mod_add_mod, Nat.add_assoc]

/-- Settles O41: in TIMER mode the count wraps at the mask. -/
theorem ticksWrapAtTheLatchedMask : Obligations.TicksWrapAtTheLatchedMask := by
  intro n s k t ht hinv hr hmode
  obtain ⟨_, hmask, hle, _⟩ := hinv
  have hw := Timer.wrapAt_of_timer hmode
  have hc : t.liveCounter.toNat < t.wrapAt := hw ▸ Nat.lt_succ_of_le (BitVec.le_def.mp hle)
  obtain ⟨s', hs', ht'⟩ := execAll_ticks n ht hr
  exact ⟨s', _, hs', ht', hw ▸ Timer.iterate_tick_liveCounter hmask hc n⟩

/-- Settles O42: a limit within the mask is the number of ticks to a wrap. -/
theorem counterModeDividesByTheLimit : Obligations.CounterModeDividesByTheLimit := by
  intro n s k t ht hinv hr hmode hlt hlimit
  obtain ⟨_, hmask, _⟩ := hinv
  have hw := Timer.wrapAt_of_limit_le hmode hlimit
  have hc : t.liveCounter.toNat < t.wrapAt := hw ▸ BitVec.lt_def.mp hlt
  obtain ⟨s', hs', ht'⟩ := execAll_ticks n ht hr
  refine ⟨s', _, hs', ht', hw ▸ Timer.iterate_tick_liveCounter hmask hc n, fun hn => ?_⟩
  rw [Timer.iterate_tick_interruptLine hmask hmode hc hn, hw]
  simp only [hlimit, true_and]

/-- Settles O43: a limit above the mask leaves the wrap at the mask, and no tick meets it. -/
theorem counterModeLimitAboveMask : Obligations.CounterModeLimitAboveMask := by
  intro n s k t ht hinv hr hmode hlimit
  obtain ⟨_, hmask, hle, _⟩ := hinv
  have hw := Timer.wrapAt_of_lt_limit hlimit
  have hc : t.liveCounter.toNat < t.wrapAt := hw ▸ Nat.lt_succ_of_le (BitVec.le_def.mp hle)
  obtain ⟨s', hs', ht'⟩ := execAll_ticks n ht hr
  refine ⟨s', _, hs', ht', hw ▸ Timer.iterate_tick_liveCounter hmask hc n, fun hn => ?_⟩
  rw [Timer.iterate_tick_interruptLine hmask hmode hc hn]
  simp only [BitVec.not_le.mpr hlimit, false_and, decide_false]

end Sys2Proof.Machine

/-!
PROOFS. The statements about the LED matrix scan decoder (43_led_matrix.md). A lit mask is read at the
positions x + 5y: a row's clear mask and a drive word's decode hold the position of a cell of that row. A drive
word acts on the bits of each row by itself, so a sequence of them does too, and R194's properties put the
three rows together to the whole mask.
-/

namespace Sys2Proof.Machine

variable {p : Params} {l : Led} {r : Fin 3} {v w : Word} {ws : List Word}

/-! ### Clear masks and decodes at a position -/

/-- Two masks that agree at every position are equal (R42). -/
theorem litMask_ext {a b : BitVec 25}
    (h : ∀ x y : Fin 5, a.getLsbD (x.val + 5 * y.val) = b.getLsbD (x.val + 5 * y.val)) : a = b := by
  refine BitVec.eq_of_getLsbD_eq fun n hn => ?_
  obtain ⟨x, y, rfl⟩ := ledPosition_exists hn
  exact h x y

/-- R195: the clear mask of a row holds the positions of its connected cells. -/
theorem rowClear_position (p : Params) (r : Fin 3) (x y : Fin 5) :
    (p.rowClear r).getLsbD (x.val + 5 * y.val) = true ↔
      ∃ c, c < 9 ∧ p.ledCell r c = some (x, y) := by
  simp [rowClear_getLsbD, LedCell.bit_getLsbD_position]

/-- R193, R197: the decode of a drive word holds the positions of the row's cells in an enabled column. -/
theorem ledBits_position (p : Params) (r : Fin 3) (v : Word) (x y : Fin 5) :
    (ledBits p r v).getLsbD (x.val + 5 * y.val) = true ↔
      ∃ c, c < 9 ∧ p.ledCell r c = some (x, y) ∧ v.getLsbD (4 + c) = false := by
  simp [ledBits_getLsbD, LedCell.bit_getLsbD_position, columnDriven, and_comm]

/-- A decode lies within the clear mask of its row. -/
theorem ledBits_and_rowClear (p : Params) (r : Fin 3) (v : Word) :
    ledBits p r v &&& p.rowClear r = ledBits p r v := by
  refine litMask_ext fun x y => ?_
  rw [BitVec.getLsbD_and, Bool.and_eq_left_iff_imp, ledBits_position, rowClear_position]
  rintro ⟨c, hc, hcell, _⟩
  exact ⟨c, hc, hcell⟩

/-! ### One drive word -/

/-- R192: a drive word with an invalid row select keeps the decoder. -/
theorem Led.drive_of_none (h : driveRow v = none) : l.drive p v = l := by
  simp only [Led.drive, h]

/-- R197: a drive word with a valid row select replaces the bits of its row. -/
theorem Led.drive_of_some (h : driveRow v = some r) :
    l.drive p v =
      { l with litMask := (l.litMask &&& ~~~(p.rowClear r)) ||| ledBits p r v }.markRedraw := by
  simp only [Led.drive, h]

/-- R195, R197: a position of the new mask is one of an enabled cell, or lies outside the row and was lit. -/
theorem drive_litMask_position (p : Params) (m : BitVec 25) (r : Fin 3) (v : Word) (x y : Fin 5) :
    ((m &&& ~~~(p.rowClear r)) ||| ledBits p r v).getLsbD (x.val + 5 * y.val) = true ↔
      (∃ c, c < 9 ∧ p.ledCell r c = some (x, y) ∧ v.getLsbD (4 + c) = false) ∨
      ((∀ c, c < 9 → p.ledCell r c ≠ some (x, y)) ∧ m.getLsbD (x.val + 5 * y.val) = true) := by
  have hn : x.val + 5 * y.val < 25 := by omega
  have hkept : (~~~(p.rowClear r)).getLsbD (x.val + 5 * y.val) = true ↔
      ∀ c, c < 9 → p.ledCell r c ≠ some (x, y) := by
    simpa [hn] using not_congr (rowClear_position p r x y)
  rw [BitVec.getLsbD_or, Bool.or_eq_true, ledBits_position, BitVec.getLsbD_and, Bool.and_eq_true, hkept,
    or_comm, and_comm (b := ∀ c, c < 9 → _)]

/-- Settles O44: the mask of `Led.drive_of_some`, read at a position. -/
theorem driveWriteScansOneRow : Obligations.DriveWriteScansOneRow := by
  intro s v r hv
  refine ⟨(s.led.litMask &&& ~~~(s.params.rowClear r)) ||| ledBits s.params r v, ?_,
    drive_litMask_position s.params s.led.litMask r v⟩
  have hexec := exec_led (i := .wDrive v) (s := s) rfl rfl
  rwa [ledAfter, Led.drive_of_some ((driveRow_eq_some v r).mpr hv)] at hexec

/-- Settles O45: a drive word with an invalid row select keeps the decoder. -/
theorem invalidScanIsIgnored : Obligations.InvalidScanIsIgnored := by
  intro s v hv
  have hexec := exec_led (i := .wDrive v) (s := s) rfl rfl
  rwa [ledAfter, Led.drive_of_none ((driveRow_eq_none v).mpr hv)] at hexec

/-- The row select is in bits 15:4 of a drive word (R196). -/
theorem driveRow_congr (h : v.extractLsb' 4 12 = w.extractLsb' 4 12) : driveRow v = driveRow w := by
  have hsel (u : Word) : rowSelField u = (u.extractLsb' 4 12).extractLsb' 9 3 := by
    refine BitVec.eq_of_getLsbD_eq fun n hn => ?_
    simp [rowSelField, show 9 + n < 12 by omega, ← Nat.add_assoc]
  rw [driveRow, driveRow, hsel v, hsel w, h]

/-- The column enables are in bits 15:4 of a drive word (R196). -/
theorem columnDriven_congr (h : v.extractLsb' 4 12 = w.extractLsb' 4 12) {c : Nat} (hc : c < 9) :
    columnDriven v c = columnDriven w c := by
  have hbit (u : Word) : u.getLsbD (4 + c) = (u.extractLsb' 4 12).getLsbD c := by
    simp [show c < 12 by omega]
  rw [columnDriven, columnDriven, hbit v, hbit w, h]

/-- R196: the decode depends on bits 15:4 of a drive word. -/
theorem ledBits_congr (h : v.extractLsb' 4 12 = w.extractLsb' 4 12) (p : Params) (r : Fin 3) :
    ledBits p r v = ledBits p r w := by
  unfold ledBits
  refine List.foldl_ext _ _ _ fun _ c hc => ?_
  rw [columnDriven_congr h (List.mem_range.mp hc)]

/-- Settles O46: the row and the decode are the same. -/
theorem driveIgnoresOtherBits : Obligations.DriveIgnoresOtherBits := by
  intro s v w h
  have hdrive : s.led.drive s.params v = s.led.drive s.params w := by
    simp only [Led.drive, driveRow_congr h, ledBits_congr h]
  rw [exec_led (i := .wDrive v) rfl rfl, exec_led (i := .wDrive w) rfl rfl, ledAfter, ledAfter, hdrive]
  rfl

/-- Settles O47: the word returned is the lit mask, widened to 32 bits. -/
theorem driveReadMarksRedraw : Obligations.DriveReadMarksRedraw := by
  intro s
  exact ⟨litWord s.led, exec_led (i := .rDrive) rfl rfl,
    BitVec.toNat_setWidth_of_le (by decide), rfl⟩

/-- Settles O60: either fallback operation appends its record and keeps the rest of the decoder. -/
theorem ledBadOffset : Obligations.LedBadOffset := by
  intro s off v w
  exact ⟨exec_led (i := .lRBadoffset off w) rfl rfl, exec_led (i := .lWBadoffset off v w) rfl rfl⟩

/-! ### The partition of the rows -/

theorem mem_rows (r : Fin 3) : r ∈ ([0, 1, 2] : List (Fin 3)) := by
  revert r
  decide

/-- The connected cells of a row, column by column. -/
def rowCells (p : Params) (r : Fin 3) : List (Fin 5 × Fin 5) :=
  (List.range 9).filterMap (p.ledCell r)

/-- The clear mask of a row holds the positions its cells list. -/
theorem rowClear_position_iff_mem (p : Params) (r : Fin 3) (x y : Fin 5) :
    (p.rowClear r).getLsbD (x.val + 5 * y.val) = true ↔ (x, y) ∈ rowCells p r := by
  simp [rowClear_position, rowCells]

/-- The connected cells of the map are those of its rows. -/
theorem mem_connectedCells {c : Fin 5 × Fin 5} : c ∈ p.connectedCells ↔ ∃ r, c ∈ rowCells p r := by
  simp only [Params.connectedCells, List.mem_flatMap, mem_rows, true_and, rowCells]

/-- R194: the 25 positions are listed once each. -/
theorem connectedCells_of_ledMapOk (h : p.ledMapOk = true) :
    p.connectedCells.Nodup ∧ p.connectedCells.length = 25 := by
  simp only [Params.ledMapOk, Bool.and_eq_true, decide_eq_true_eq, beq_iff_eq] at h
  obtain ⟨⟨⟨hnodup, hlen⟩, _⟩, _⟩ := h
  exact ⟨hnodup, hlen⟩

/-- No cell is in two rows: the map lists no position twice. -/
theorem rowCells_disjoint (h : p.ledMapOk = true) {r r' : Fin 3} (hne : r ≠ r') :
    (rowCells p r).Disjoint (rowCells p r') := by
  obtain ⟨hnodup, _⟩ := connectedCells_of_ledMapOk h
  have hpair : List.Pairwise (Function.onFun List.Disjoint (rowCells p)) [0, 1, 2] :=
    (List.nodup_flatMap.mp hnodup).2
  have hsymm : Std.Symm (Function.onFun List.Disjoint (rowCells p)) := ⟨fun _ _ => List.Disjoint.symm⟩
  exact hpair.forall (mem_rows r) (mem_rows r') hne

/-- Every position is in some row: 25 different positions are all of them. -/
theorem exists_mem_rowCells (h : p.ledMapOk = true) (c : Fin 5 × Fin 5) : ∃ r, c ∈ rowCells p r := by
  obtain ⟨hnodup, hlen⟩ := connectedCells_of_ledMapOk h
  have huniv : p.connectedCells.toFinset = Finset.univ := by
    rw [← Finset.card_eq_iff_eq_univ, List.toFinset_card_of_nodup hnodup, hlen]
    rfl
  exact mem_connectedCells.mp (List.mem_toFinset.mp (huniv ▸ Finset.mem_univ c))

/-- R195: the clear masks of two rows have no bit in common. -/
theorem rowClear_and_rowClear (h : p.ledMapOk = true) {r r' : Fin 3} (hne : r ≠ r') :
    p.rowClear r &&& p.rowClear r' = 0#25 := by
  refine litMask_ext fun x y => ?_
  rw [BitVec.getLsbD_and, BitVec.getLsbD_zero, Bool.eq_false_iff, ne_eq, Bool.and_eq_true,
    rowClear_position_iff_mem, rowClear_position_iff_mem]
  exact fun ⟨hr, hr'⟩ => rowCells_disjoint h hne hr hr'

/-- R195: the clear masks of the three rows have all 25 bits. -/
theorem rowClear_or_rowClear (h : p.ledMapOk = true) :
    p.rowClear 0 ||| p.rowClear 1 ||| p.rowClear 2 = BitVec.allOnes 25 := by
  refine litMask_ext fun x y => ?_
  have hn : x.val + 5 * y.val < 25 := by omega
  obtain ⟨r, hr⟩ := exists_mem_rowCells h (x, y)
  rw [← rowClear_position_iff_mem] at hr
  rw [BitVec.getLsbD_or, BitVec.getLsbD_or, BitVec.getLsbD_allOnes, decide_eq_true hn]
  match r with
  | 0 | 1 | 2 => simp only [hr, Bool.true_or, Bool.or_true]

/-- Settles O48: the rows share no position and have all of them. -/
theorem rowClearMasksPartition : Obligations.RowClearMasksPartition := by
  intro p h
  exact ⟨rowClear_and_rowClear h (by decide), rowClear_and_rowClear h (by decide),
    rowClear_and_rowClear h (by decide), rowClear_or_rowClear h⟩

/-! ### A sequence of drive words -/

/-- A mask disjoint from another lies in its complement. -/
theorem not_and_of_and_eq_zero {n : Nat} {a b : BitVec n} (h : a &&& b = 0#n) : ~~~a &&& b = b := by
  ext i hi
  have hbit : (a[i] && b[i]) = false := by simpa [hi] using congrArg (·.getLsbD i) h
  cases ha : a[i] with
  | false => simp [ha]
  | true => simpa [ha] using hbit.symm

/-- A valid drive word leaves of its row what it decodes to. -/
theorem Led.drive_litMask_of_row (hw : driveRow w = some r) :
    (l.drive p w).litMask &&& p.rowClear r = ledBits p r w := by
  rw [Led.drive_of_some hw, Led.markRedraw_litMask, BitVec.and_or_distrib_right, ledBits_and_rowClear,
    BitVec.and_assoc, BitVec.not_and_self]
  simp

/-- A drive word that does not select a row keeps the row's bits. -/
theorem Led.drive_litMask_of_other_row (h : p.ledMapOk = true) (hw : driveRow w ≠ some r) :
    (l.drive p w).litMask &&& p.rowClear r = l.litMask &&& p.rowClear r := by
  cases hw' : driveRow w with
  | none => rw [Led.drive_of_none hw']
  | some r' =>
    have hdisj : p.rowClear r' &&& p.rowClear r = 0#25 :=
      rowClear_and_rowClear h fun he => hw (he ▸ hw')
    have hbits : ledBits p r' w &&& p.rowClear r = 0#25 := by
      rw [← ledBits_and_rowClear, BitVec.and_assoc, hdisj, BitVec.and_zero]
    rw [Led.drive_of_some hw', Led.markRedraw_litMask, BitVec.and_or_distrib_right, hbits,
      BitVec.or_zero, BitVec.and_assoc, not_and_of_and_eq_zero hdisj]

/-- Drive words in a row are all performed, and each acts on the decoder the last one left. -/
theorem execAll_drives (ws : List Word) (s : State) :
    ∃ s', execAll (ws.map Instr.wDrive) s = .next s' ∧
      s'.led = ws.foldl (Led.drive s.params) s.led := by
  induction ws generalizing s with
  | nil => exact ⟨s, rfl, rfl⟩
  | cons w ws ih => exact ih ((s.putLed (s.led.drive s.params w)).respond .nothing)

/-- The last drive word of a sequence is the last valid one of the row it selects. -/
theorem lastValid_append (r : Fin 3) (ws : List Word) (w : Word) :
    lastValid r (ws ++ [w]) = if driveRow w = some r then some w else lastValid r ws := by
  simp only [lastValid, List.foldl_append, List.foldl_cons, List.foldl_nil]

/-- R201: of each row, drive words in a row leave the decode of the row's last valid one. -/
theorem foldl_drive_litMask (h : p.ledMapOk = true) (l : Led) (hv : lastValid r ws = some v) :
    (ws.foldl (Led.drive p) l).litMask &&& p.rowClear r = ledBits p r v := by
  induction ws using List.reverseRecOn with
  | nil => cases hv
  | append_singleton ws w ih =>
    rw [List.foldl_append, List.foldl_cons, List.foldl_nil]
    rw [lastValid_append] at hv
    split at hv
    · next hw =>
      obtain rfl : w = v := Option.some.inj hv
      exact Led.drive_litMask_of_row hw
    · next hw => rw [Led.drive_litMask_of_other_row h hw, ih hv]

/-- Settles O49: the mask is the union of its three rows, each the decode of its last valid word. -/
theorem fullFrameIsUnionOfRows : Obligations.FullFrameIsUnionOfRows := by
  intro s ws v h hlast
  obtain ⟨s', hs', hled⟩ := execAll_drives ws s
  have hrow (r : Fin 3) : s'.led.litMask &&& s.params.rowClear r = ledBits s.params r (v r) := by
    rw [hled]
    exact foldl_drive_litMask h s.led (hlast r)
  refine ⟨s', hs', ?_⟩
  calc s'.led.litMask
      = s'.led.litMask &&& (s.params.rowClear 0 ||| s.params.rowClear 1 ||| s.params.rowClear 2) := by
        rw [rowClear_or_rowClear h, BitVec.and_allOnes]
    _ = ledBits s.params 0 (v 0) ||| ledBits s.params 1 (v 1) ||| ledBits s.params 2 (v 2) := by
        rw [BitVec.and_or_distrib_left, BitVec.and_or_distrib_left, hrow, hrow, hrow]

end Sys2Proof.Machine

/-!
PROOFS. The statements about the host events (44_host_interface.md): what RESET, SAVE, RESTORE and SINK_ACK
do to each device, the refusals of operations, and a step that has no operation to perform. A RESTORE is
proved once for each device (`exec_tRestore`, `exec_lRestore`), over the records its check admits.
-/

namespace Sys2Proof.Machine

variable {i : Instr} {s : State} {k : Nat} {t : Timer} {e : Refusal}

/-! ### A step without an operation -/

theorem State.fetch_of_end (h : s.stream.length ≤ s.pos) : s.fetch = .idle := by
  simp only [State.fetch, List.getElem?_eq_none h]

theorem State.fetch_of_imageLoad (h : s.stream[s.pos]? = some .imageLoad) : s.fetch = .noEffect := by
  simp only [State.fetch, h]

/-- Settles O9: each clause says what the fetch finds, and so which branch of a step is taken. -/
theorem stepWithoutOperation : Obligations.StepWithoutOperation := by
  intro s
  refine ⟨fun h => ?_, fun h => ?_, fun r e hr hload hd => ?_⟩
  · simp only [step, runNext, State.fetch_of_end h]
  · simp only [step, runNext, State.fetch_of_imageLoad h, finish, State.advance]
  · simp only [step, runNext, State.fetch_of_reject hr hload hd]

/-! ### The refusals of operations -/

/-- All the refusals of a timer operation: a malformed record, or a missing instance. -/
theorem exec_timer_refused (hi : i.target = .timer k) (h : exec i s = .refused e) :
    (e = .badRecord ∧ ∃ rec, i = .tRestore k rec ∧ timerRecordOk rec = false) ∨
      (e = .noSuchTimer k ∧ s.timers.length ≤ k) := by
  cases ht : s.timers[k]? with
  | none =>
    obtain he | ⟨rec, hrec, hok, he⟩ := exec_timer_none hi ht
    · exact .inr ⟨by simpa [he] using h.symm, List.getElem?_eq_none_iff.mp ht⟩
    · exact .inl ⟨by simpa [he] using h.symm, rec, hrec, hok⟩
  | some t =>
    cases hp : timerPerforms i t with
    | true => simp [exec_timer hi ht hp] at h
    | false =>
      obtain ⟨_, he⟩ | ⟨rec, hrec, hok, he⟩ := exec_timer_not hi ht hp
      · simp [he] at h
      · exact .inl ⟨by simpa [he] using h.symm, rec, hrec, hok⟩

/-- The LED operation that is not performed is a RESTORE of a malformed record (R225). -/
theorem lRestore_of_not_ledPerforms (h : ledPerforms i = false) :
    ∃ rec, i = .lRestore rec ∧ ledRecordOk rec = false := by
  cases i with
  | lRestore rec => exact ⟨rec, rfl, h⟩
  | _ => cases h

/-- All the refusals of an LED operation: a malformed record. -/
theorem exec_led_refused (hi : i.target = .led) (h : exec i s = .refused e) :
    e = .badRecord ∧ ∃ rec, i = .lRestore rec ∧ ledRecordOk rec = false := by
  cases hp : ledPerforms i with
  | true => simp [exec_led hi hp] at h
  | false => exact ⟨by simpa [exec_led_not hp] using h.symm, lRestore_of_not_ledPerforms hp⟩

/-- Settles O17, by the device the operation addresses. -/
theorem operationRefusals : Obligations.OperationRefusals := by
  intro s i e h
  obtain ⟨k, hi⟩ | hi := i.target_cases
  · obtain ⟨he, rec, hrec, hok⟩ | ⟨he, hlen⟩ := exec_timer_refused hi h
    · exact .inl ⟨he, .inl ⟨k, rec, hrec, hok⟩⟩
    · exact .inr ⟨k, he, hi, hlen⟩
  · obtain ⟨he, hrec⟩ := exec_led_refused hi h
    exact .inl ⟨he, .inr hrec⟩

/-! ### RESET and the acknowledgement -/

/-- R82: the selector of a timer's event is the same for every instance. -/
theorem selector_timerEvent (k : Nat) (code : BitVec 13) (arg : EventArg) :
    (Request.event (.timer k) code arg).selector = some (1#1 ++ 0#1 ++ code) := rfl

/-- R47, R221: a reset timer, with the values of R47 that R7's parameters give written as numbers. -/
theorem Timer.reset_eq (p : Params) (t : Timer) :
    t.reset p = { Timer.fresh p with
      latchedMask := BitVec.ofNat 32 (2 ^ (p.widthOf 0#2).bits - 1)
      latchedPrescaler := BitVec.ofNat 4 (min p.prescalerReset.toNat 9)
      diag := t.diag } := by
  rw [← CounterWidth.mask_eq_ofNat, ← effectivePrescaler_eq]
  rfl

/-- Settles O50: the reset timer. -/
theorem timerResetValues : Obligations.TimerResetValues := by
  intro s k t ht
  have hexec := exec_timer (i := .tReset k) rfl ht rfl
  rw [timerAfter, Timer.reset_eq] at hexec
  exact ⟨hexec, selector_timerEvent k 0x1#13 .none⟩

/-- Settles O51: the reset decoder. -/
theorem ledResetValues : Obligations.LedResetValues := by
  intro s
  exact ⟨exec_led (i := .lReset) rfl rfl, rfl⟩

/-- R226: a flag is cleared where it is named. -/
theorem Led.ack_eq (l : Led) (front back : Bool) :
    l.ack front back = { l with
      redrawFront := if front then false else l.redrawFront
      redrawBack := if back then false else l.redrawBack } := by
  cases front <;> cases back <;> simp [Led.ack]

/-- Settles O56: the acknowledgement, flag by flag. -/
theorem sinkAckClearsNamedFlags : Obligations.SinkAckClearsNamedFlags := by
  intro s front back
  rw [← Led.ack_eq]
  exact ⟨exec_led (i := .sinkAck front back) rfl rfl, rfl⟩

/-! ### SAVE -/

/-- R223: what a timer's SAVE returns. -/
theorem exec_tSave (ht : s.timers[k]? = some t) :
    exec (.tSave k) s = .next (s.respond (.timerRecord t.record)) :=
  queryTimer_of_some ht _

/-- R223: what the LED decoder's SAVE returns. -/
theorem exec_lSave (s : State) : exec .lSave s = .next (s.respond (.ledRecord s.led.record)) := rfl

/-- Settles O52: the records, field by field; the lit mask is widened to 32 bits. -/
theorem saveReturnsTheRecord : Obligations.SaveReturnsTheRecord := by
  intro s k t ht
  rw [BitVec.ofNat_toNat]
  exact ⟨exec_tSave ht, exec_lSave s, selector_timerEvent k 0x2#13 .none, rfl⟩

/-! ### RESTORE of a timer -/

/-- R224: a well-formed record is copied into the timer, and no tick is performed. -/
theorem exec_tRestore {rec : TimerRecord} (ht : s.timers[k]? = some t) (h : timerRecordOk rec = true) :
    exec (.tRestore k rec) s = .next ((s.putTimer k (t.restore rec)).respond .nothing) :=
  exec_timer (i := .tRestore k rec) rfl ht h

/-- R223, R224: within the bounds of R224 no field is cut off, so the restored timer's record is the one
restored. -/
theorem Timer.record_restore {rec : TimerRecord} (h : timerRecordOk rec = true) (t : Timer) :
    (t.restore rec).record = rec := by
  obtain ⟨_, _, _, hlatched, hprescaler, hcode, hmask, _⟩ := (timerRecordOk_iff rec).mp h
  simp (disch := omega) only [Timer.record, Timer.restore, BitVec.toNat_ofNat, Nat.mod_eq_of_lt]

/-- Settles O53: the list of R224 is the check's, by `timerRecordOk_iff`. -/
theorem timerRestore : Obligations.TimerRestore := by
  intro s k rec t ht ok
  have hok : timerRecordOk rec = true ↔ ok := timerRecordOk_iff rec
  refine ⟨fun h => ?_, fun h => ?_, selector_timerEvent k 0x3#13 (.timerRecord rec)⟩
  · exact ⟨t.restore rec, exec_tRestore ht (hok.mpr h), rfl, Timer.record_restore (hok.mpr h) t⟩
  · exact exec_tRestore_malformed (eq_false_of_ne_true (mt hok.mp h)) k s

/-! ### RESTORE of the LED decoder -/

/-- R225: the check as a bound on a number. -/
theorem ledRecordOk_iff (rec : LedRecord) : ledRecordOk rec = true ↔ rec.litMask.toNat ≤ 0x1FFFFFF := by
  rw [ledRecordOk, decide_eq_true_iff]
  exact BitVec.le_def

/-- R225: a well-formed record's lit mask is taken, and both redraws are marked. -/
theorem exec_lRestore {rec : LedRecord} (h : ledRecordOk rec = true) (s : State) :
    exec (.lRestore rec) s = .next ((s.putLed (s.led.restore rec)).respond .nothing) :=
  exec_led (i := .lRestore rec) rfl h

/-- Settles O54: a record is accepted or refused by the number of its lit mask. -/
theorem ledRestore : Obligations.LedRestore := by
  intro s rec
  refine ⟨fun h => ?_, fun h => ?_, rfl⟩
  · exact exec_lRestore ((ledRecordOk_iff rec).mpr h) s
  · have hbad : ledRecordOk rec = false :=
      eq_false_of_ne_true fun hok => Nat.not_le.mpr h ((ledRecordOk_iff rec).mp hok)
    exact exec_led_not (i := .lRestore rec) hbad s

/-! ### SAVE, then RESTORE -/

/-- R223, R225: the decoder always saves a well-formed record. -/
theorem Led.record_ok (l : Led) : ledRecordOk l.record = true := by
  have hlt := l.litMask.isLt
  rw [ledRecordOk_iff, Led.record, BitVec.toNat_setWidth_of_le (by decide)]
  omega

/-- R227: restoring a saved record gives the saved lit mask back, with both redraws pending. -/
theorem Led.restore_record (l m : Led) :
    m.restore l.record =
      { litMask := l.litMask, redrawFront := true, redrawBack := true, diag := m.diag } := by
  simp [Led.restore, Led.record, Led.markRedraw]

/-- Settles O55: both saved records are well formed, the timer's by the invariants, and restoring a saved
record gives the device back. -/
theorem saveRestoreRoundTrip : Obligations.SaveRestoreRoundTrip := by
  intro a b k t u ha ht hu
  obtain ⟨_, hinv⟩ := ha
  have hrec : timerRecordOk t.record = true := Timer.record_ok (hinv t (List.mem_of_getElem? ht))
  refine ⟨⟨t.record, exec_tSave ht, ?_⟩, ⟨a.led.record, exec_lSave a, ?_⟩⟩
  · rw [exec_tRestore hu hrec, Timer.restore_record]
    rfl
  · rw [exec_lRestore a.led.record_ok, Led.restore_record]
    rfl

end Sys2Proof.Machine

/-!
PROOFS. The statements about exceptions (60_exceptions.md): which operations are performed, and an access to a
timer offset that is no register's.
-/

namespace Sys2Proof.Machine

variable {i : Instr} {s : State} {k : Nat}

/-- R80, R255: the instance a well-formed operation addresses exists. -/
theorem State.Inv.lt_length_of_wf (hs : s.Inv) (hwf : i.wf s.params = true) (hi : i.target = .timer k) :
    k < s.timers.length := by
  obtain ⟨hlen, _⟩ := hs
  obtain ⟨hdev, _⟩ := Instr.wf_iff.mp hwf
  rw [hi] at hdev
  exact hlen ▸ of_decide_eq_true hdev

/-- Settles O15: the only fault is the TICK of a stopped timer, and the refusals are a malformed record and a
missing instance; the premises rule each of them out. -/
theorem wellFormedOperationsComplete : Obligations.WellFormedOperationsComplete := by
  intro s i hs hwf htick htrec hlrec
  cases he : exec i s with
  | next s' => exact ⟨s', rfl, onlyTheTargetDeviceChanges s s' i he⟩
  | fault f =>
    obtain ⟨k, t, hi, _, ht, hstopped⟩ := (onlyTickOfStoppedTimerHasNoStep s i f).mp he
    exact absurd (htick k t hi ht) (ne_true_of_eq_false hstopped)
  | refused e =>
    obtain ⟨_, ⟨k, rec, hi, hbad⟩ | ⟨rec, hi, hbad⟩⟩ | ⟨k, _, hi, hmissing⟩ := operationRefusals s i e he
    · exact absurd (htrec k rec hi) (ne_true_of_eq_false hbad)
    · exact absurd (hlrec rec hi) (ne_true_of_eq_false hbad)
    · exact absurd (hs.lt_length_of_wf hwf hi) (Nat.not_lt.mpr hmissing)

/-- Settles O58: the fallback operations keep all of the timer but its list, and the record they append there
is the bad-offset one. -/
theorem timerBadOffset : Obligations.TimerBadOffset := by
  intro s k off v w t ht hunimpl
  have hbad := ne_true_of_eq_false hunimpl
  have hread : timerReadDiag s.params k off w = .badOffsetRead (.timer k) off w := if_neg hbad
  have hwrite : timerWriteDiag s.params k off v w = .badOffsetWrite (.timer k) off v w := if_neg hbad
  rw [← hread, ← hwrite]
  exact ⟨exec_timer (i := .tRBadoffset k off w) rfl ht rfl,
    exec_timer (i := .tWBadoffset k off v w) rfl ht rfl⟩

end Sys2Proof.Machine
